-- ==== Sys2Proof/Word.lean ====
section
/-! DEFINITION. The word types of the machine: bytes, bus words, addresses. Nothing here can be wrong of the
hardware but a width; every width is stated by the rule its docstring names. -/

namespace Sys2Proof

/-- One byte: an SMBus byte, an EEPROM cell, a byte lane of the data bus. -/
abbrev Byte := BitVec 8

/-- One transfer of D[127:0]# (R105, R517). -/
abbrev DataWord := BitVec 128

/-- The 128 bytes of a cache line or of the longest transfer (R106); byte `k` is bits `8k+7 .. 8k`. -/
abbrev LineData := BitVec 1024

/-- A physical byte address: 50 bits (R12, R101). -/
abbrev PhysAddr := BitVec 50

/-- The address pins A[49:3]#: 47 of them, pin `A[k]` is bit `k - 3` (R101, R500). -/
abbrev AddrPins := BitVec 47

/-- The number of a 128-byte line: A[49:7] (R106). -/
abbrev LineAddr := BitVec 43

/-- A deferred identifier DID[9:0] (R168). -/
abbrev Did := BitVec 10

/-- A 7-bit SMBus slave address, the bits b[7:1] of the address byte (R120). -/
abbrev SmbAddr := BitVec 7

/-- The width of a virtual address, the only width stated for an address a program forms (R33, R100). -/
abbrev VirtAddr := BitVec 64

end Sys2Proof
end

