-- ==== Sys2Proof/Config.lean ====
section
/-! DEFINITION. What the sources leave open and an implementation fixes. Every constant here is opaque: no proof can
learn its value. The parameters are those of 93_implementation_defined.md section 4.1; the free values are indexed
by a plain counter of the state (`State.free`), which every draw advances. -/

namespace Sys2Proof.Config

/-- `GR_WIDTH`: the width of a general register (R30; log 2). -/
opaque grWidth : Nat
/-- The width of a floating-point register, which the source does not give (R31; log 2). -/
opaque frWidth : Nat
/-- The number of predicate registers, which the source does not give (R32; log 2). -/
opaque prCount : Nat

/-- `RESET_VECTOR`: a physical address, which the source does not give (R33, R111, D6). -/
opaque resetVector : PhysAddr
/-- `HANDLER_ENTRY` (R731, D7): where control goes for an event number and a vector. -/
opaque handlerEntry : Nat → Byte → VirtAddr
/-- Where the program counter stands after a core instruction: how instructions advance it is not in the source
(R33). The free index makes every use of it independent (log 3). -/
opaque nextPc : Nat → VirtAddr → VirtAddr

/-- The response kind of a non-idle RS[2:0]# code: `RS_CODE` read backwards (R173, R624). The five kinds are numbered
as `RespKind.ofNat` reads them; a code outside the injective image of `RS_CODE` may stand for any kind. -/
opaque rsKind : BitVec 3 → Nat

/-- `IOQ_DEPTH - 1` (R639): the depth itself is at least 1. -/
opaque ioqDepthPred : Nat
/-- `ADS_MIN_SPACING - 2` (R622): the spacing itself is at least 2. -/
opaque adsSpacingExtra : Nat
/-- `T_CONV` in microseconds, before it is brought into 1 .. 99999 (R457: positive and below 0.1 s). -/
opaque tConvRaw : Nat
/-- `T_ETM_ENTRY` in degrees Celsius (R351, R360). -/
opaque tEtmEntry : Int
/-- How far `T_TRIP` lies above `T_ETM_ENTRY`, less one degree (R351: strictly above). -/
opaque tripGap : Nat
/-- `ETM_EXIT_DELAY` in microseconds less one: "approximately one second" (R363). -/
opaque etmExitDelayPred : Nat
/-- `PIROM_WRITE_ACK` (R420, D18). -/
opaque piromWriteAck : Bool
/-- `SCRATCH_WP_ACK` (R421, D18). -/
opaque scratchWpAck : Bool
/-- Whether the 1.6 GHz / 9 MB part runs on the 266 MHz bus clock: `BUS_CLOCK_1600_9M` (R11, D14). -/
opaque bus266For1600x9 : Bool

/-- The 16 check bits of a 128-bit data word: P5, R112. -/
opaque ecc : DataWord → BitVec 16
/-- The processor an Interrupt transaction addresses, an abstract field of its clock-a address (R604, D36). -/
opaque interruptTarget : AddrPins → BitVec 2
/-- The vector an Interrupt transaction carries, an abstract field of its clock-a address (R604, D36). -/
opaque interruptVector : AddrPins → Byte
/-- How a purge range stands on A[49:3]# of a Purge TC request (R605: not in the source). -/
opaque purgePins : VirtAddr → VirtAddr → AddrPins
/-- The first address of the range a Purge TC request describes (R605). -/
opaque purgeFirst : AddrPins → VirtAddr
/-- The last address of the range a Purge TC request describes (R605). -/
opaque purgeLast : AddrPins → VirtAddr

/-! The free values: each is applied to the free counter of the state. -/

/-- A free byte (undefined read data and registers). -/
opaque freeByte : Nat → Byte
/-- A free bit. -/
opaque freeBool : Nat → Bool
/-- A free 7-bit EEPROM address counter (U24). -/
opaque freeCounter : Nat → BitVec 7
/-- A free duration in microseconds. -/
opaque freeTime : Nat → Nat
/-- Free general registers (U25). -/
opaque freeGr : Nat → Vector (BitVec grWidth) 128
/-- Free floating-point registers (U25). -/
opaque freeFr : Nat → Vector (BitVec frWidth) 128
/-- Free predicate registers (U25). -/
opaque freePr : Nat → Vector Bool prCount
/-- A free 64-bit value (a pc after a thermal trip, U25). -/
opaque free64 : Nat → BitVec 64
/-- Free contents of the translation buffers, as ranges of addresses (R779). -/
opaque freeRanges : Nat → List (VirtAddr × VirtAddr)
/-- A free line of data (U25). -/
opaque freeLine : Nat → LineData
/-- Free contents of the caches: the number of a line, whether it is modified, its data (R365, U25). -/
opaque freeCache : Nat → List (LineAddr × Bool × LineData)
/-- Free saved records: a pc, whether INT was masked, the event by its number, its vector (U25). -/
opaque freeRecords : Nat → List (VirtAddr × Bool × Nat × Byte)
/-- Free vectors waiting (U25). -/
opaque freeVectors : Nat → List Byte
/-- Free clock-a address pins (the address of a special or interrupt acknowledge request, R602, R603). -/
opaque freePins : Nat → AddrPins

/-- The pc at the reset vector: the physical address as the core's 64 bits (R33). -/
def resetPc : VirtAddr := resetVector.zeroExtend 64

/-- `IOQ_DEPTH ≥ 1` (R639). -/
def ioqDepth : Nat := ioqDepthPred + 1
/-- `ADS_MIN_SPACING ≥ 2` (R622). -/
def adsMinSpacing : Nat := adsSpacingExtra + 2
/-- `T_CONV`: 0 < T_CONV < 0.1 s, in microseconds (R457). -/
def tConv : Nat := tConvRaw % 99999 + 1
/-- `T_TRIP > T_ETM_ENTRY` (R351). -/
def tTrip : Int := tEtmEntry + 1 + tripGap

/-- `ETM_EXIT_DELAY > 0` (R363). -/
def etmExitDelay : Nat := etmExitDelayPred + 1

end Sys2Proof.Config
end

