-- ==== Sys2Proof/Syntax.lean ====
section
/-! DEFINITION. The operations of the machine as syntax: one constructor of `Instr` for each of the 59 rows of
spec/opcode_table.json. Four families stand in the table: the SMBus packets of the two memories (R414 to R421), the
packets of the thermal sensing device (R435 to R450), the system bus requests (R601 to R613) with the special
transactions (R614 to R621), and the core instructions the source names (R661 to R671). -/

namespace Sys2Proof

/-- Which of the two memories a packet names (R142): the SMA[1:0] bits of its address and the device select bit. -/
structure EeSel where
  /-- Address bits b[3:2]: SMA1, SMA0. -/
  sma : BitVec 2
  /-- Address bit b[1]: false the scratch EEPROM, true the PIROM. -/
  pirom : Bool
  deriving DecidableEq, Repr

/-- The fields of A[49:3]# in the second request clock (R160, R167, R168). -/
structure ClockB where
  /-- Ab[49:36]: not defined in the source. -/
  high : BitVec 14
  /-- ATTR[3:0]# on Ab[35:32]. -/
  attr : BitVec 4
  /-- xTPRDisable# on Ab[31]. -/
  xtprDisable : BitVec 1
  /-- xTPRValue[3:0]# on Ab[30:27]. -/
  xtprValue : BitVec 4
  /-- Ab[26]: not defined in the source. -/
  ab26 : BitVec 1
  /-- DID[9:0]# on Ab[25:16]. -/
  did : Did
  /-- BE[7:0]# on Ab[15:8]. -/
  be : BitVec 8
  /-- EXF[4:0]# on Ab[7:3]. -/
  exf : BitVec 5
  deriving DecidableEq, Repr

/-- What every bus request carries beside the bits that are particular to its row (R160). -/
structure Request where
  /-- Aa[49:3]. -/
  addr : AddrPins
  /-- The fields of clock b. -/
  b : ClockB
  /-- DSZ[1:0]# on REQb[4:3]. -/
  dsz : BitVec 2
  deriving DecidableEq, Repr

/-- The packet in which a sensor command that has no meaning travels (R450). -/
inductive SensorForm where
  /-- Read byte packet (R152). -/
  | read
  /-- Write byte packet with its data byte (R151). -/
  | write (d : Byte)
  /-- Send byte packet (R153). -/
  | send
  deriving DecidableEq, Repr

/-- What CPUID can be asked for (R36, R662). -/
inductive CpuidReg where
  | id3
  | ia32Features
  | ipfFeatures
  deriving DecidableEq, Repr

/-- A range of virtual addresses, first to last, both in it: what a TLB Purge names (R664), and what an entry of the opaque
TLB translates (R42). The operands of the instruction (address, size, region) and what an entry holds are not in the source:
a closed interval of 64-bit addresses without a region (DESIGN CHOICE, log 42). -/
structure PurgeRange where
  first : VirtAddr
  last : VirtAddr
  deriving DecidableEq, Repr

/-- The five memory types of Table A-2 (R103). -/
inductive MemType where
  | uncacheable
  | writeCoalescing
  | writeThrough
  | writeProtect
  | writeback
  deriving DecidableEq, Repr

/-- The five transfer lengths of Table A-9 (R106). -/
inductive XferLen where
  | partial8
  | bytes16
  | bytes32
  | bytes64
  | bytes128
  deriving DecidableEq, Repr

/-- The kinds of access the source gives a bus image (R671). -/
inductive AccessKind where
  | load
  | fetch
  | store
  | ioRead
  | ioWrite
  deriving DecidableEq, Repr

/-- `CORE_ENDIAN`, supplied by the core for each data access (R104). -/
inductive Endian where
  | little
  | big
  deriving DecidableEq, Repr

/-- One load, store, instruction fetch or I/O access of the core (R671). -/
structure Access where
  kind : AccessKind
  /-- The byte address; only 50 bits reach the bus (R101). -/
  addr : BitVec 64
  memType : MemType
  len : XferLen
  /-- The byte enables of a partial transfer (R106). -/
  be : BitVec 8
  /-- DEN#: the transaction may be deferred (R523). -/
  deferrable : Bool
  /-- WSNP# of a memory write (R569). -/
  snooped : Bool
  /-- EXF[2]#: CCL# of a memory write, OWN# of any other (R167). -/
  exf2 : Bool
  endian : Endian
  /-- The value stored; byte `k` of the value is bits `8k+7 .. 8k`. A partial access's value stands in the bytes of the
  granule its byte enables name, in little-endian order. -/
  data : LineData
  deriving DecidableEq, Repr

/-- The operations of spec/opcode_table.json. -/
inductive Instr where
  -- the packets of the two memories
  | eeCurrentAddressRead (sel : EeSel)
  | eeRandomRead (sel : EeSel) (da : Byte)
  /-- `start`: the data address of a random read, or none for a current address read; `more`: the host's
  acknowledges, one for each byte after the first (R416). -/
  | eeSequentialRead (sel : EeSel) (start : Option Byte) (more : Nat)
  | eeByteWrite (sma : BitVec 2) (da d : Byte)
  | eePageWrite (sma : BitVec 2) (da : Byte) (data : List Byte)
  | eeWriteToPirom (sma : BitVec 2) (da : Byte) (data : List Byte)
  | eeWriteProtected (sma : BitVec 2) (da : Byte) (data : List Byte)
  -- the packets of the thermal sensing device
  | rrt (t : SmbAddr)
  | rs (t : SmbAddr)
  | rc (t : SmbAddr)
  | rcr (t : SmbAddr)
  | rrhl (t : SmbAddr)
  | rrll (t : SmbAddr)
  | wc (t : SmbAddr) (d : Byte)
  | wcr (t : SmbAddr) (d : Byte)
  | wrhl (t : SmbAddr) (d : Byte)
  | wrll (t : SmbAddr) (d : Byte)
  | osht (t : SmbAddr)
  | ara
  | receiveByte (t : SmbAddr)
  | sensorReservedCommand (t : SmbAddr) (c : Byte) (form : SensorForm)
  -- the system bus requests of Table A-10
  | deferredReply (r : Request) (low : BitVec 3)
  | interruptAcknowledge (r : Request)
  | special (r : Request)
  | interrupt (r : Request)
  | purgeTc (r : Request)
  | ioRead (r : Request) (low : BitVec 3)
  | ioWrite (r : Request) (low : BitVec 3)
  | memReadInvalidate (r : Request) (asz : BitVec 2) (len : BitVec 3)
  | memRead (r : Request) (asz : BitVec 2) (dc : BitVec 1) (len : BitVec 3)
  | memWrite (r : Request) (asz : BitVec 2) (wsnp : BitVec 1) (len : BitVec 3)
  | memReadCurrent (r : Request) (asz : BitVec 2) (len : BitVec 3)
  | cacheLineReplacement (r : Request) (asz : BitVec 2) (wsnp : BitVec 1)
  | reservedReq000001 (r : Request) (low : BitVec 3)
  | reservedReq00100001x (r : Request) (x : BitVec 1)
  | reservedReq0010010xx (r : Request) (x : BitVec 2)
  | reservedReq00100111x (r : Request) (x : BitVec 1)
  | reservedReq01100x (r : Request) (x : BitVec 1) (low : BitVec 3)
  | reservedReq0Asz011 (r : Request) (asz : BitVec 2) (len : BitVec 3)
  | reservedReq1Asz100 (r : Request) (asz : BitVec 2) (len : BitVec 3)
  -- the special transactions of Table A-3
  | specialNop (r : Request)
  | specialShutdown (r : Request)
  | specialFlush (r : Request)
  | specialHalt (r : Request)
  | specialSync (r : Request)
  | specialStopgrantAck (r : Request)
  | specialXtprUpdate (r : Request)
  | specialReserved (r : Request)
  -- the core instructions the source names
  | fc (line : LineAddr)
  | cpuid (reg : CpuidReg)
  | eoi
  | tlbPurge (range : PurgeRange)
  | halt
  | shutdown
  | stopgrantAck
  | invd
  | wbinvd
  | xtprUpdate (value : BitVec 4) (disable : Bool)
  | loadStoreFetch (a : Access)
  deriving DecidableEq, Repr

/-- The rows of Table A-10, one for each (R161 to R163). -/
inductive BusRow where
  | deferredReply
  | interruptAcknowledge
  | special
  | interrupt
  | purgeTc
  | ioRead
  | ioWrite
  | memReadInvalidate
  | memRead
  | memWrite
  | memReadCurrent
  | cacheLineReplacement
  | reserved000001
  | reserved00100001x
  | reserved0010010xx
  | reserved00100111x
  | reserved01100x
  | reserved0Asz011
  | reserved1Asz100
  deriving DecidableEq, Repr

/-- The special transactions of Table A-3 (R170). -/
inductive SpecialKind where
  | nop
  | shutdown
  | flush
  | halt
  | sync
  | stopgrantAck
  | xtprUpdate
  | reserved
  deriving DecidableEq, Repr

/-- The request of a bus row's instruction. -/
def Instr.request : Instr → Option Request
  | .deferredReply r _ | .interruptAcknowledge r | .special r | .interrupt r | .purgeTc r => some r
  | .ioRead r _ | .ioWrite r _ | .memReadInvalidate r _ _ | .memRead r _ _ _ | .memWrite r _ _ _ => some r
  | .memReadCurrent r _ _ | .cacheLineReplacement r _ _ => some r
  | .reservedReq000001 r _ | .reservedReq00100001x r _ | .reservedReq0010010xx r _ => some r
  | .reservedReq00100111x r _ | .reservedReq01100x r _ _ => some r
  | .reservedReq0Asz011 r _ _ | .reservedReq1Asz100 r _ _ => some r
  | .eeCurrentAddressRead _ | .eeRandomRead _ _ | .eeSequentialRead _ _ _ | .eeByteWrite _ _ _ => none
  | .eePageWrite _ _ _ | .eeWriteToPirom _ _ _ | .eeWriteProtected _ _ _ | .rrt _ | .rs _ | .rc _ => none
  | .rcr _ | .rrhl _ | .rrll _ | .wc _ _ | .wcr _ _ | .wrhl _ _ | .wrll _ _ | .osht _ | .ara => none
  | .receiveByte _ | .sensorReservedCommand _ _ _ | .specialNop _ | .specialShutdown _ | .specialFlush _ => none
  | .specialHalt _ | .specialSync _ | .specialStopgrantAck _ | .specialXtprUpdate _ | .specialReserved _ => none
  | .fc _ | .cpuid _ | .eoi | .tlbPurge _ | .halt | .shutdown | .stopgrantAck | .invd | .wbinvd => none
  | .xtprUpdate _ _ | .loadStoreFetch _ => none

/-- The core instructions of R661 to R671: the rows that no bits encode. -/
def Instr.isCore : Instr → Bool
  | .fc _ | .cpuid _ | .eoi | .tlbPurge _ | .halt | .shutdown | .stopgrantAck | .invd | .wbinvd => true
  | .xtprUpdate _ _ | .loadStoreFetch _ => true
  | .eeCurrentAddressRead _ | .eeRandomRead _ _ | .eeSequentialRead _ _ _ | .eeByteWrite _ _ _ => false
  | .eePageWrite _ _ _ | .eeWriteToPirom _ _ _ | .eeWriteProtected _ _ _ | .rrt _ | .rs _ | .rc _ => false
  | .rcr _ | .rrhl _ | .rrll _ | .wc _ _ | .wcr _ _ | .wrhl _ _ | .wrll _ _ | .osht _ | .ara => false
  | .receiveByte _ | .sensorReservedCommand _ _ _ | .deferredReply _ _ | .interruptAcknowledge _ => false
  | .special _ | .interrupt _ | .purgeTc _ | .ioRead _ _ | .ioWrite _ _ | .memReadInvalidate _ _ _ => false
  | .memRead _ _ _ _ | .memWrite _ _ _ _ | .memReadCurrent _ _ _ | .cacheLineReplacement _ _ _ => false
  | .reservedReq000001 _ _ | .reservedReq00100001x _ _ | .reservedReq0010010xx _ _ => false
  | .reservedReq00100111x _ _ | .reservedReq01100x _ _ _ | .reservedReq0Asz011 _ _ _ => false
  | .reservedReq1Asz100 _ _ _ | .specialNop _ | .specialShutdown _ | .specialFlush _ | .specialHalt _ => false
  | .specialSync _ | .specialStopgrantAck _ | .specialXtprUpdate _ | .specialReserved _ => false

end Sys2Proof
end

