-- ==== Sys2Proof/WellFormed.lean ====
section
/-! DEFINITION. Which terms of `Instr` stand for something that can be sent: the operand values an encoding admits,
and the static rules a bus request must keep (R102, R103, R106, R107, R108) or a register write must keep (R77,
R78). -/

namespace Sys2Proof

/-- Why a term is ill-formed. -/
inductive Malformed where
  /-- A sensor packet's address lies in the memories' range, in 0000XXX, or is the Alert Response Address. -/
  | sensorAddress
  /-- A write packet without data. -/
  | noData
  /-- A page write of fewer than two bytes. -/
  | shortPage
  /-- A sequential read in which the host acknowledges no byte. -/
  | noAcknowledge
  /-- A "reserved" sensor command whose code is defined for that packet. -/
  | definedCommand
  /-- A special transaction whose BE[7:0]# is another's code. -/
  | beCode
  /-- ASZ[1:0]# reserved or at odds with A[49:36] (R102). -/
  | asz
  /-- ATTR[2:0]# = 001, 010 or 011 (R103). -/
  | attr
  /-- DSZ[1:0]# other than 01 from a symmetric agent (R107). -/
  | dsz
  /-- LEN[2:0]# = 101, 110 or 111 (R106). -/
  | len
  /-- A transfer of 16 bytes or more that is not naturally aligned (R108). -/
  | alignment
  /-- A 1 in a reserved CONFIG bit (R77). -/
  | configReserved
  /-- A conversion rate of 08h to FFh (R78). -/
  | rateReserved
  deriving DecidableEq, Repr

/-- The upper address bits 1010 of the memories (R142). -/
def isMemoryAddress (t : SmbAddr) : Bool := t.extractLsb' 3 4 == 0b1010#4
/-- The addresses of the form 0000XXX (R145). -/
def isReservedAddress (t : SmbAddr) : Bool := t.extractLsb' 3 4 == 0b0000#4
/-- The Alert Response Address 0001100 (R144). -/
def araAddress : SmbAddr := 0b0001100#7
/-- An address a sensor packet can carry: neither the memories', nor reserved, nor the ARA. -/
def isSensorAddress (t : SmbAddr) : Bool := !isMemoryAddress t && !isReservedAddress t && !(t == araAddress)

/-- The read commands of Table 6-13 (R150). -/
def isReadCommand (c : Byte) : Bool := c == 0x01 || c == 0x02 || c == 0x03 || c == 0x04 || c == 0x07 || c == 0x08
/-- The write commands of Table 6-13 (R150). -/
def isWriteCommand (c : Byte) : Bool := c == 0x09 || c == 0x0A || c == 0x0D || c == 0x0E
/-- The one command of the send byte packet (R150). -/
def isSendCommand (c : Byte) : Bool := c == 0x0F

/-- The BE[7:0]# code of each special transaction (R170); the reserved ones have none. -/
def SpecialKind.code : SpecialKind → Option (BitVec 8)
  | .nop => some 0x00
  | .shutdown => some 0x01
  | .flush => some 0x02
  | .halt => some 0x03
  | .sync => some 0x04
  | .stopgrantAck => some 0x06
  | .xtprUpdate => some 0x08
  | .reserved => none

/-- The codes of Table A-3 that name something. -/
def isSpecialCode (be : BitVec 8) : Bool :=
  be == 0x00 || be == 0x01 || be == 0x02 || be == 0x03 || be == 0x04 || be == 0x06 || be == 0x08

/-- `ASZ = if A[49:36] = 0 then 01 else 10` (R102). -/
def aszLegal (a : AddrPins) (asz : BitVec 2) : Bool :=
  if a.extractLsb' 33 14 == 0#14 then asz == 0b01#2 else asz == 0b10#2

/-- ATTR[2:0] is one of the five codes of Table A-2 (R103). The reserved ATTR[3]# is not looked at: a request that carries
it as 1 is accepted with the bit ignored (DESIGN CHOICE, log 21). -/
def attrLegal (attr : BitVec 4) : Bool := attr.extractLsb' 0 3 == 0#3 || attr.getLsbD 2

/-- DSZ = 01 unless the requester is the priority agent, DID[9] = 1 (R107, U19). -/
def dszLegal (did : Did) (dsz : BitVec 2) : Bool := did.getLsbD 9 || dsz == 0b01#2

/-- LEN[2:0] is one of the five lengths of Table A-9 (R106). -/
def lenLegal (len : BitVec 3) : Bool := len.toNat ≤ 4

/-- `addr mod length = 0` for LEN of 16 bytes and more; a partial transfer has no such rule (R108). -/
def aligned (a : AddrPins) (len : BitVec 3) : Bool := a.toNat % 2 ^ len.toNat == 0

/-- The rule every request keeps (R103). -/
def Request.malformedAttr (r : Request) : Option Malformed :=
  if attrLegal r.b.attr then none else some .attr

/-- The rules of a request whose row carries DSZ (R103, R107). The reserved EXF[4]# of Table A-8 is not looked at: a request
that carries it as 1 is accepted with the bit ignored (R167; DESIGN CHOICE, log 21). -/
def Request.malformed (r : Request) : Option Malformed :=
  if !attrLegal r.b.attr then some .attr
  else if !dszLegal r.b.did r.dsz then some .dsz
  else none

/-- The rules of a memory access request (R102, R103, R106, R107, R108). -/
def Request.malformedMem (r : Request) (asz : BitVec 2) (len : BitVec 3) : Option Malformed :=
  if !aszLegal r.addr asz then some .asz
  else if !attrLegal r.b.attr then some .attr
  else if !dszLegal r.b.did r.dsz then some .dsz
  else if !lenLegal len then some .len
  else if !aligned r.addr len then some .alignment
  else none

/-- Only bit 6 of CONFIG may be written as 1 (R77). -/
def configMalformed (d : Byte) : Option Malformed :=
  if d &&& 0xBF == 0 then none else some .configReserved

/-- CONVRATE takes 00h to 07h (R78). -/
def rateMalformed (d : Byte) : Option Malformed :=
  if d.toNat ≤ 7 then none else some .rateReserved

/-- A sensor packet's address. -/
def sensorMalformed (t : SmbAddr) : Option Malformed :=
  if isSensorAddress t then none else some .sensorAddress

/-- The special transaction of kind `k`: its BE[7:0]# is its code, and the request keeps its rules. -/
def specialMalformed (k : SpecialKind) (r : Request) : Option Malformed :=
  if k.code == some r.b.be then r.malformed
  else if k == .reserved && !isSpecialCode r.b.be then r.malformed
  else some .beCode

/-- The first rule a term breaks, if any. -/
def Instr.malformed : Instr → Option Malformed
  | .eeCurrentAddressRead _ => none
  | .eeRandomRead _ _ => none
  | .eeSequentialRead _ _ more => if more = 0 then some .noAcknowledge else none
  | .eeByteWrite _ _ _ => none
  | .eePageWrite _ _ data => if data.length < 2 then some .shortPage else none
  | .eeWriteToPirom _ _ data => if data.length < 1 then some .noData else none
  | .eeWriteProtected _ _ data => if data.length < 1 then some .noData else none
  | .rrt t => sensorMalformed t
  | .rs t => sensorMalformed t
  | .rc t => sensorMalformed t
  | .rcr t => sensorMalformed t
  | .rrhl t => sensorMalformed t
  | .rrll t => sensorMalformed t
  | .wc t d => (sensorMalformed t).or (configMalformed d)
  | .wcr t d => (sensorMalformed t).or (rateMalformed d)
  | .wrhl t _ => sensorMalformed t
  | .wrll t _ => sensorMalformed t
  | .osht t => sensorMalformed t
  | .ara => none
  | .receiveByte t => sensorMalformed t
  | .sensorReservedCommand t c form =>
    if (match form with
        | .read => isReadCommand c
        | .write _ => isWriteCommand c
        | .send => isSendCommand c) then some .definedCommand
    else sensorMalformed t
  | .deferredReply r _ => r.malformedAttr
  | .interruptAcknowledge r => r.malformed
  | .special r => r.malformed
  | .interrupt r => r.malformed
  | .purgeTc r => r.malformed
  | .ioRead r _ => r.malformed
  | .ioWrite r _ => r.malformed
  | .memReadInvalidate r asz len => r.malformedMem asz len
  | .memRead r asz _ len => r.malformedMem asz len
  | .memWrite r asz _ len => r.malformedMem asz len
  | .memReadCurrent r asz len => r.malformedMem asz len
  | .cacheLineReplacement r asz _ => r.malformedMem asz 0
  | .reservedReq000001 _ _ => none
  | .reservedReq00100001x _ _ => none
  | .reservedReq0010010xx _ _ => none
  | .reservedReq00100111x _ _ => none
  | .reservedReq01100x _ _ _ => none
  | .reservedReq0Asz011 _ _ _ => none
  | .reservedReq1Asz100 _ _ _ => none
  | .specialNop r => specialMalformed .nop r
  | .specialShutdown r => specialMalformed .shutdown r
  | .specialFlush r => specialMalformed .flush r
  | .specialHalt r => specialMalformed .halt r
  | .specialSync r => specialMalformed .sync r
  | .specialStopgrantAck r => specialMalformed .stopgrantAck r
  | .specialXtprUpdate r => specialMalformed .xtprUpdate r
  | .specialReserved r => specialMalformed .reserved r
  | .fc _ => none
  | .cpuid _ => none
  | .eoi => none
  | .tlbPurge _ => none
  | .halt => none
  | .shutdown => none
  | .stopgrantAck => none
  | .invd => none
  | .wbinvd => none
  | .xtprUpdate _ _ => none
  | .loadStoreFetch _ => none

/-- A term is well-formed when it breaks no rule. -/
def Instr.wf (i : Instr) : Bool := i.malformed.isNone

end Sys2Proof
end

