-- ==== Sys2Proof/Decode.lean ====
section
/-! DEFINITION. From what travels on the wires to `Instr` and back: SMBus packets (R142 to R155), the twelve request
bits and the two address words of a bus request (R160 to R168), the byte-enable code of a special transaction (R170).
`decode` is total and refuses by name; `encode` writes a well-formed instruction from the same tables. The core
instructions have no encoding in the source (R140): they pass through by name. -/

namespace Sys2Proof

/-! ### What travels -/

/-- What the SMBus host puts on the bus (R382): a start, a byte, an answer to a device's byte, a stop. -/
inductive HostItem where
  | start
  | byte (b : Byte)
  | ack
  | nack
  | stop
  deriving DecidableEq, Repr

/-- The request pins of one clock: A[49:3]# and REQ[5:0]# (R160). -/
structure ClockWord where
  pins : AddrPins
  req : BitVec 6
  deriving DecidableEq, Repr

/-- What is fetched: an SMBus packet, the two clocks of a bus request, a special transaction whose code is still to be
read (R164), or a core instruction by its name (R140). -/
inductive Fetch where
  | packet (items : List HostItem)
  | request (a b : ClockWord)
  | special (r : Request)
  | named (i : Instr)
  deriving DecidableEq, Repr

/-- The packet shapes of R146 to R155, with the host's acknowledges counted. -/
inductive Packet where
  /-- `S a R {A} {Data} (A {Data})* N P`. -/
  | read (a : SmbAddr) (acks : Nat)
  /-- `S a W {A} d {A} S a R {A} {Data} (A {Data})* N P`. -/
  | writeRead (a : SmbAddr) (d : Byte) (acks : Nat)
  /-- `S a W {A} (byte {A})* P`. -/
  | write (a : SmbAddr) (bytes : List Byte)
  /-- A read packet given up after its repeated start, or after the address byte that follows it (R435). -/
  | abandoned (a : SmbAddr) (d : Byte) (readdressed : Bool)
  deriving DecidableEq, Repr

/-- What decoding answers. -/
inductive Decoded where
  /-- An instruction. -/
  | instr (i : Instr)
  /-- `S a W {A} da {A} P`: the write with no data that loads the address counter (R415). -/
  | loadAddress (sel : EeSel) (da : Byte)
  /-- `S a W {A} P`: harmless by construction (R422). -/
  | probe (a : SmbAddr)
  /-- A sensor read packet given up before its data byte: before or after its second address byte (R435). -/
  | abandonedRead (t : SmbAddr) (c : Byte) (readdressed : Bool)
  /-- A packet to 0000XXX (R145). -/
  | reservedAddress (a : SmbAddr)
  /-- A sequence of events that is no packet, with every address byte in it: the first and one after each repeated start
  (R417, R422). -/
  | badPacket (addresses : List Byte)
  /-- A request word that matches no row of Table A-10 (R164). -/
  | noRow (w : BitVec 12)
  /-- A name that is no core instruction's. -/
  | notCore
  deriving DecidableEq, Repr

/-! ### SMBus packets -/

/-- The address byte: seven address bits and R/W (R142, R143). -/
def addressByte (a : SmbAddr) (rw : BitVec 1) : Byte := a ++ rw
/-- The seven address bits of an address byte. -/
def byteAddress (b : Byte) : SmbAddr := b.extractLsb' 1 7
/-- The address of a memory: 1010, SMA1, SMA0, device select (R142). -/
def memoryAddress (sel : EeSel) : SmbAddr := 0b1010#4 ++ sel.sma ++ BitVec.ofBool sel.pirom
/-- The memory an address of the form 1010XXY names (R142). -/
def addressSel (a : SmbAddr) : EeSel := { sma := a.extractLsb' 1 2, pirom := a.getLsbD 0 }

/-- The end of a read: the host's acknowledges, then its negative acknowledge and a stop (R416, R417). -/
def parseAcks : List HostItem → Option Nat
  | [.nack, .stop] => some 0
  | .ack :: rest => (parseAcks rest).map (· + 1)
  | _ => none

/-- The end of a write: bytes, then a stop (R149). -/
def parseBytes : List HostItem → Option (List Byte)
  | [.stop] => some []
  | .byte b :: rest => (parseBytes rest).map (b :: ·)
  | _ => none

/-- After the second start of a read packet, which must name the same device with R = 1 (R147, R152). -/
def parseReread (a : SmbAddr) (d : Byte) : List HostItem → Option Packet
  | [.stop] => some (.abandoned a d false)
  | .byte b :: rest =>
    if b = addressByte a 1 then
      if rest = [.stop] then some (.abandoned a d true) else (parseAcks rest).map (.writeRead a d)
    else none
  | _ => none

/-- A whole packet, from its start to its stop. -/
def parsePacket : List HostItem → Option Packet
  | .start :: .byte b :: rest =>
    if b.getLsbD 0 then (parseAcks rest).map (.read (byteAddress b))
    else match rest with
      | .byte d :: .start :: rest2 => parseReread (byteAddress b) d rest2
      | _ => (parseBytes rest).map (.write (byteAddress b))
  | _ => none

/-- Every address byte of a sequence of host events: the byte after each start (R382). -/
def packetAddresses : List HostItem → List Byte
  | [] => []
  | .start :: rest =>
    (match rest with
      | .byte b :: _ => [b]
      | _ => []) ++ packetAddresses rest
  | _ :: rest => packetAddresses rest

/-- The address bytes of a packet: its read and write addresses (R142, R143). -/
def Packet.addressBytes : Packet → List Byte
  | .read a _ => [addressByte a 1]
  | .write a _ | .abandoned a _ false => [addressByte a 0]
  | .writeRead a _ _ | .abandoned a _ true => [addressByte a 0, addressByte a 1]

/-- The read byte packet of a sensor command (R150, R152). -/
def decodeSensorRead (t : SmbAddr) (c : Byte) : Instr :=
  if c = 0x01 then .rrt t
  else if c = 0x02 then .rs t
  else if c = 0x03 then .rc t
  else if c = 0x04 then .rcr t
  else if c = 0x07 then .rrhl t
  else if c = 0x08 then .rrll t
  else .sensorReservedCommand t c .read

/-- The write byte packet of a sensor command (R150, R151). -/
def decodeSensorWrite (t : SmbAddr) (c d : Byte) : Instr :=
  if c = 0x09 then .wc t d
  else if c = 0x0A then .wcr t d
  else if c = 0x0D then .wrhl t d
  else if c = 0x0E then .wrll t d
  else .sensorReservedCommand t c (.write d)

/-- The send byte packet of a sensor command (R150, R153). -/
def decodeSensorSend (t : SmbAddr) (c : Byte) : Instr :=
  if c = 0x0F then .osht t else .sensorReservedCommand t c .send

/-- The bytes of a write packet to a memory (R149, R418 to R421). SMWP tells a write from an attempt at one. -/
def decodeMemoryWrite (smwp : Bool) (sel : EeSel) (da : Byte) (data : List Byte) : Decoded :=
  match data with
  | [] => .loadAddress sel da
  | d :: more =>
    if sel.pirom then .instr (.eeWriteToPirom sel.sma da data)
    else if smwp then .instr (.eeWriteProtected sel.sma da data)
    else if more = [] then .instr (.eeByteWrite sel.sma da d)
    else .instr (.eePageWrite sel.sma da data)

/-- A packet to a memory (R384, R413). -/
def decodeMemoryPacket (smwp : Bool) : Packet → Decoded
  | .read a 0 => .instr (.eeCurrentAddressRead (addressSel a))
  | .read a acks => .instr (.eeSequentialRead (addressSel a) none acks)
  | .writeRead a d 0 => .instr (.eeRandomRead (addressSel a) d)
  | .writeRead a d acks => .instr (.eeSequentialRead (addressSel a) (some d) acks)
  | .write a [] => .probe a
  | .write a (da :: data) => decodeMemoryWrite smwp (addressSel a) da data
  | .abandoned a d x => .badPacket (Packet.abandoned a d x).addressBytes

/-- A packet to any other address: the sensor's five packet types (R433). -/
def decodeSensorPacket : Packet → Decoded
  | .read a 0 => .instr (.receiveByte a)
  | .read a n => .badPacket (Packet.read a n).addressBytes
  | .writeRead a c 0 => .instr (decodeSensorRead a c)
  | .writeRead a c n => .badPacket (Packet.writeRead a c n).addressBytes
  | .write a [] => .probe a
  | .write a [c] => .instr (decodeSensorSend a c)
  | .write a [c, d] => .instr (decodeSensorWrite a c d)
  | .write a l => .badPacket (Packet.write a l).addressBytes
  | .abandoned a c x => .abandonedRead a c x

/-- A packet to the Alert Response Address: only a read of one byte is one (R144, R155). -/
def decodeAraPacket : Packet → Decoded
  | .read _ 0 => .instr .ara
  | .read a n => .badPacket (Packet.read a n).addressBytes
  | .writeRead a d n => .badPacket (Packet.writeRead a d n).addressBytes
  | .write a l => .badPacket (Packet.write a l).addressBytes
  | .abandoned a d x => .badPacket (Packet.abandoned a d x).addressBytes

/-- The address a packet is sent to. -/
def Packet.address : Packet → SmbAddr
  | .read a _ | .writeRead a _ _ | .write a _ | .abandoned a _ _ => a

/-- The packet's meaning by its address (R120, R145). -/
def decodePacket (smwp : Bool) (p : Packet) : Decoded :=
  if isReservedAddress p.address then .reservedAddress p.address
  else if isMemoryAddress p.address then decodeMemoryPacket smwp p
  else if p.address = araAddress then decodeAraPacket p
  else decodeSensorPacket p

/-! ### Bus requests -/

/-- One row of Table A-10: a word matches it where `word &&& mask = value`. -/
structure RowBits where
  row : BusRow
  mask : BitVec 12
  value : BitVec 12
  deriving DecidableEq, Repr

/-- The cells of Table A-10 the source lost, as open parameters (R162 b, R163, D13). What is certain of the three lower
rows is built in: that Memory Read Current has REQa[5] = 1 and that each carries the fields its name has. -/
structure OpenCells where
  /-- `INTACK_REQB_LOW`: REQb[2:0] of Interrupt Acknowledge (R162 b). -/
  intackReqbLow : BitVec 3
  /-- REQa[2:0] and REQb[5] of Memory Read Current (R163). -/
  currentReqaLow : BitVec 3
  currentReqb5 : BitVec 1
  /-- REQa[5], REQa[2:0] and REQb[5] of the Reserved row after it (R163). -/
  reservedReqa5 : BitVec 1
  reservedReqaLow : BitVec 3
  reservedReqb5 : BitVec 1
  /-- REQa[5], REQa[2], REQa[0] and REQb[5] of Cache Line Replacement (R163). -/
  replacementReqa5 : BitVec 1
  replacementReqa2 : BitVec 1
  replacementReqa0 : BitVec 1
  replacementReqb5 : BitVec 1
  deriving DecidableEq, Repr

/-- The spec's default reading of the lost cells (R162 b, R163, D13). -/
def OpenCells.default : OpenCells :=
  { intackReqbLow := 0b000, currentReqaLow := 0b000, currentReqb5 := 0, reservedReqa5 := 1, reservedReqaLow := 0b100,
    reservedReqb5 := 0, replacementReqa5 := 1, replacementReqa2 := 1, replacementReqa0 := 1, replacementReqb5 := 0 }

/-- The twelve request bits from REQa[5], REQa[4:3], REQa[2:0], REQb[5], REQb[4:3] and REQb[2:0] (R160). -/
def requestBits (a5 : BitVec 1) (a43 : BitVec 2) (a20 : BitVec 3) (b5 : BitVec 1) (b43 : BitVec 2) (b20 : BitVec 3) :
    BitVec 12 := a5 ++ a43 ++ a20 ++ b5 ++ b43 ++ b20

/-- The rows of Table A-10 that the source keeps, as masks and matches over `REQa[5:0] ++ REQb[5:0]` (R161). -/
def fixedRows : List RowBits :=
  [ ⟨.deferredReply, 0xFE0, 0x000⟩, ⟨.reserved000001, 0xFE0, 0x040⟩,
    ⟨.special, 0xFE7, 0x201⟩, ⟨.reserved00100001x, 0xFE6, 0x202⟩, ⟨.reserved0010010xx, 0xFE4, 0x240⟩,
    ⟨.interrupt, 0xFE7, 0x244⟩, ⟨.purgeTc, 0xFE7, 0x245⟩, ⟨.reserved00100111x, 0xFE6, 0x246⟩,
    ⟨.ioRead, 0xFE0, 0x400⟩, ⟨.ioWrite, 0xFE0, 0x440⟩, ⟨.reserved01100x, 0xFA0, 0x600⟩,
    ⟨.memReadInvalidate, 0x9E0, 0x080⟩, ⟨.reserved0Asz011, 0x9E0, 0x0C0⟩, ⟨.memRead, 0x960, 0x100⟩,
    ⟨.memWrite, 0x960, 0x140⟩ ]

/-- The rows with a lost cell: their cells are those of `c` (R162, R163). -/
def openRows (c : OpenCells) : List RowBits :=
  [ ⟨.interruptAcknowledge, 0xFE7, requestBits 0 0b01 0b000 0 0 c.intackReqbLow⟩,
    ⟨.memReadCurrent, 0x9E0, requestBits 1 0 c.currentReqaLow c.currentReqb5 0 0⟩,
    ⟨.reserved1Asz100, 0x9E0, requestBits c.reservedReqa5 0 c.reservedReqaLow c.reservedReqb5 0 0⟩,
    ⟨.cacheLineReplacement, 0x967,
      requestBits c.replacementReqa5 0 (c.replacementReqa2 ++ 0b0#1 ++ c.replacementReqa0) c.replacementReqb5 0 0⟩ ]

/-- Table A-10. -/
def busRows (c : OpenCells) : List RowBits := fixedRows ++ openRows c

/-- Whether a request word matches a row. -/
def RowBits.hits (x : RowBits) (w : BitVec 12) : Bool := w &&& x.mask == x.value

/-- Two rows that no word matches both of. -/
def RowBits.disjoint (x y : RowBits) : Bool := x.value &&& (x.mask &&& y.mask) != y.value &&& (x.mask &&& y.mask)

/-- Every row is disjoint from all that follow it. -/
def rowsDisjoint : List RowBits → Bool
  | [] => true
  | x :: rest => rest.all x.disjoint && rowsDisjoint rest

/-- A reading of the lost cells under which every request word has one meaning at most. -/
def OpenCells.legal (c : OpenCells) : Bool := rowsDisjoint (busRows c)

/-- The row a request word matches (R164). -/
def rowOf (c : OpenCells) (w : BitVec 12) : Option BusRow :=
  ((busRows c).find? fun b => b.hits w).map (·.row)

/-- The fields of clock b from A[49:3]# (R160). -/
def clockB (p : AddrPins) : ClockB :=
  { high := p.extractLsb' 33 14, attr := p.extractLsb' 29 4, xtprDisable := p.extractLsb' 28 1,
    xtprValue := p.extractLsb' 24 4, ab26 := p.extractLsb' 23 1, did := p.extractLsb' 13 10,
    be := p.extractLsb' 5 8, exf := p.extractLsb' 0 5 }

/-- The pins of clock b from its fields (R160). -/
def clockBPins (b : ClockB) : AddrPins :=
  b.high ++ b.attr ++ b.xtprDisable ++ b.xtprValue ++ b.ab26 ++ b.did ++ b.be ++ b.exf

/-- A request's two clocks (R160, R161, R164). -/
def decodeRequest (c : OpenCells) (a b : ClockWord) : Decoded :=
  let w : BitVec 12 := a.req ++ b.req
  let r : Request := { addr := a.pins, b := clockB b.pins, dsz := w.extractLsb' 3 2 }
  let asz := w.extractLsb' 9 2
  let req1 := w.extractLsb' 7 1
  let len := w.extractLsb' 0 3
  match rowOf c w with
  | none => .noRow w
  | some .deferredReply => .instr (.deferredReply r len)
  | some .interruptAcknowledge => .instr (.interruptAcknowledge r)
  | some .special => .instr (.special r)
  | some .interrupt => .instr (.interrupt r)
  | some .purgeTc => .instr (.purgeTc r)
  | some .ioRead => .instr (.ioRead r len)
  | some .ioWrite => .instr (.ioWrite r len)
  | some .memReadInvalidate => .instr (.memReadInvalidate r asz len)
  | some .memRead => .instr (.memRead r asz req1 len)
  | some .memWrite => .instr (.memWrite r asz req1 len)
  | some .memReadCurrent => .instr (.memReadCurrent r asz len)
  | some .cacheLineReplacement => .instr (.cacheLineReplacement r asz req1)
  | some .reserved000001 => .instr (.reservedReq000001 r len)
  | some .reserved00100001x => .instr (.reservedReq00100001x r (w.extractLsb' 0 1))
  | some .reserved0010010xx => .instr (.reservedReq0010010xx r (w.extractLsb' 0 2))
  | some .reserved00100111x => .instr (.reservedReq00100111x r (w.extractLsb' 0 1))
  | some .reserved01100x => .instr (.reservedReq01100x r (w.extractLsb' 6 1) len)
  | some .reserved0Asz011 => .instr (.reservedReq0Asz011 r asz len)
  | some .reserved1Asz100 => .instr (.reservedReq1Asz100 r asz len)

/-- The special transaction of a BE[7:0]# code (R170). -/
def decodeSpecial (r : Request) : Instr :=
  if r.b.be = 0x00 then .specialNop r
  else if r.b.be = 0x01 then .specialShutdown r
  else if r.b.be = 0x02 then .specialFlush r
  else if r.b.be = 0x03 then .specialHalt r
  else if r.b.be = 0x04 then .specialSync r
  else if r.b.be = 0x06 then .specialStopgrantAck r
  else if r.b.be = 0x08 then .specialXtprUpdate r
  else .specialReserved r

/-- A sequence that forms no packet: one to 0000XXX is refused as such (R145). -/
def decodeBadPacket (addresses : List Byte) : Decoded :=
  match addresses.find? fun b => isReservedAddress (byteAddress b) with
  | some b => .reservedAddress (byteAddress b)
  | none => .badPacket addresses

/-- Decoding: total on every sequence of events and every request. `c` holds the cells of Table A-10 the source lost,
`smwp` the level of the SMWP pin. -/
def decode (c : OpenCells) (smwp : Bool) : Fetch → Decoded
  | .packet items =>
    match parsePacket items with
    | some p => decodePacket smwp p
    | none => decodeBadPacket (packetAddresses items)
  | .request a b => decodeRequest c a b
  | .special r => .instr (decodeSpecial r)
  | .named i => if i.isCore then .instr i else .notCore

/-! ### Encoding -/

/-- `S a R {A} {Data} (A {Data})* N P`. -/
def packetRead (a : SmbAddr) (acks : Nat) : List HostItem :=
  .start :: .byte (addressByte a 1) :: (List.replicate acks .ack ++ [.nack, .stop])

/-- `S a W {A} d {A} S a R {A} {Data} (A {Data})* N P`. -/
def packetWriteRead (a : SmbAddr) (d : Byte) (acks : Nat) : List HostItem :=
  .start :: .byte (addressByte a 0) :: .byte d :: packetRead a acks

/-- `S a W {A} (byte {A})* P`. -/
def packetWrite (a : SmbAddr) (bytes : List Byte) : List HostItem :=
  .start :: .byte (addressByte a 0) :: (bytes.map .byte ++ [.stop])

/-- The two clocks of a request whose twelve request bits are `w`. -/
def encodeRequest (r : Request) (w : BitVec 12) : Fetch :=
  .request { pins := r.addr, req := w.extractLsb' 6 6 } { pins := clockBPins r.b, req := w.extractLsb' 0 6 }

/-- The twelve request bits of a bus row (R161 to R163). -/
def requestWord (c : OpenCells) : Instr → BitVec 12
  | .deferredReply r low => 0b000000#6 ++ 0b0#1 ++ r.dsz ++ low
  | .interruptAcknowledge r => requestBits 0 0b01 0b000 0 r.dsz c.intackReqbLow
  | .special r => 0b001000#6 ++ 0b0#1 ++ r.dsz ++ 0b001#3
  | .interrupt r => 0b001001#6 ++ 0b0#1 ++ r.dsz ++ 0b100#3
  | .purgeTc r => 0b001001#6 ++ 0b0#1 ++ r.dsz ++ 0b101#3
  | .ioRead r low => 0b010000#6 ++ 0b0#1 ++ r.dsz ++ low
  | .ioWrite r low => 0b010001#6 ++ 0b0#1 ++ r.dsz ++ low
  | .memReadInvalidate r asz len => 0b0#1 ++ asz ++ 0b010#3 ++ 0b0#1 ++ r.dsz ++ len
  | .memRead r asz dc len => 0b0#1 ++ asz ++ 0b1#1 ++ dc ++ 0b0#1 ++ 0b0#1 ++ r.dsz ++ len
  | .memWrite r asz wsnp len => 0b0#1 ++ asz ++ 0b1#1 ++ wsnp ++ 0b1#1 ++ 0b0#1 ++ r.dsz ++ len
  | .memReadCurrent r asz len => requestBits 1 asz c.currentReqaLow c.currentReqb5 r.dsz len
  | .cacheLineReplacement r asz wsnp =>
    requestBits c.replacementReqa5 asz (c.replacementReqa2 ++ wsnp ++ c.replacementReqa0) c.replacementReqb5 r.dsz 0
  | .reservedReq000001 r low => 0b000001#6 ++ 0b0#1 ++ r.dsz ++ low
  | .reservedReq00100001x r x => 0b001000#6 ++ 0b0#1 ++ r.dsz ++ 0b01#2 ++ x
  | .reservedReq0010010xx r x => 0b001001#6 ++ 0b0#1 ++ r.dsz ++ 0b0#1 ++ x
  | .reservedReq00100111x r x => 0b001001#6 ++ 0b0#1 ++ r.dsz ++ 0b11#2 ++ x
  | .reservedReq01100x r x low => 0b01100#5 ++ x ++ 0b0#1 ++ r.dsz ++ low
  | .reservedReq0Asz011 r asz len => 0b0#1 ++ asz ++ 0b011#3 ++ 0b0#1 ++ r.dsz ++ len
  | .reservedReq1Asz100 r asz len =>
    requestBits c.reservedReqa5 asz c.reservedReqaLow c.reservedReqb5 r.dsz len
  | .eeCurrentAddressRead _ | .eeRandomRead _ _ | .eeSequentialRead _ _ _ | .eeByteWrite _ _ _ => 0
  | .eePageWrite _ _ _ | .eeWriteToPirom _ _ _ | .eeWriteProtected _ _ _ | .rrt _ | .rs _ | .rc _ => 0
  | .rcr _ | .rrhl _ | .rrll _ | .wc _ _ | .wcr _ _ | .wrhl _ _ | .wrll _ _ | .osht _ | .ara => 0
  | .receiveByte _ | .sensorReservedCommand _ _ _ | .specialNop _ | .specialShutdown _ | .specialFlush _ => 0
  | .specialHalt _ | .specialSync _ | .specialStopgrantAck _ | .specialXtprUpdate _ | .specialReserved _ => 0
  | .fc _ | .cpuid _ | .eoi | .tlbPurge _ | .halt | .shutdown | .stopgrantAck | .invd | .wbinvd => 0
  | .xtprUpdate _ _ | .loadStoreFetch _ => 0

/-- What a host or a requester sends to have `i` done: the words of a well-formed instruction. -/
def encode (c : OpenCells) (i : Instr) : Fetch :=
  match i with
  | .eeCurrentAddressRead sel => .packet (packetRead (memoryAddress sel) 0)
  | .eeRandomRead sel da => .packet (packetWriteRead (memoryAddress sel) da 0)
  | .eeSequentialRead sel none more => .packet (packetRead (memoryAddress sel) more)
  | .eeSequentialRead sel (some da) more => .packet (packetWriteRead (memoryAddress sel) da more)
  | .eeByteWrite sma da d => .packet (packetWrite (memoryAddress ⟨sma, false⟩) [da, d])
  | .eePageWrite sma da data => .packet (packetWrite (memoryAddress ⟨sma, false⟩) (da :: data))
  | .eeWriteToPirom sma da data => .packet (packetWrite (memoryAddress ⟨sma, true⟩) (da :: data))
  | .eeWriteProtected sma da data => .packet (packetWrite (memoryAddress ⟨sma, false⟩) (da :: data))
  | .rrt t => .packet (packetWriteRead t 0x01 0)
  | .rs t => .packet (packetWriteRead t 0x02 0)
  | .rc t => .packet (packetWriteRead t 0x03 0)
  | .rcr t => .packet (packetWriteRead t 0x04 0)
  | .rrhl t => .packet (packetWriteRead t 0x07 0)
  | .rrll t => .packet (packetWriteRead t 0x08 0)
  | .wc t d => .packet (packetWrite t [0x09, d])
  | .wcr t d => .packet (packetWrite t [0x0A, d])
  | .wrhl t d => .packet (packetWrite t [0x0D, d])
  | .wrll t d => .packet (packetWrite t [0x0E, d])
  | .osht t => .packet (packetWrite t [0x0F])
  | .ara => .packet (packetRead araAddress 0)
  | .receiveByte t => .packet (packetRead t 0)
  | .sensorReservedCommand t x .read => .packet (packetWriteRead t x 0)
  | .sensorReservedCommand t x (.write d) => .packet (packetWrite t [x, d])
  | .sensorReservedCommand t x .send => .packet (packetWrite t [x])
  | .deferredReply r _ => encodeRequest r (requestWord c i)
  | .interruptAcknowledge r => encodeRequest r (requestWord c i)
  | .special r => encodeRequest r (requestWord c i)
  | .interrupt r => encodeRequest r (requestWord c i)
  | .purgeTc r => encodeRequest r (requestWord c i)
  | .ioRead r _ => encodeRequest r (requestWord c i)
  | .ioWrite r _ => encodeRequest r (requestWord c i)
  | .memReadInvalidate r _ _ => encodeRequest r (requestWord c i)
  | .memRead r _ _ _ => encodeRequest r (requestWord c i)
  | .memWrite r _ _ _ => encodeRequest r (requestWord c i)
  | .memReadCurrent r _ _ => encodeRequest r (requestWord c i)
  | .cacheLineReplacement r _ _ => encodeRequest r (requestWord c i)
  | .reservedReq000001 r _ => encodeRequest r (requestWord c i)
  | .reservedReq00100001x r _ => encodeRequest r (requestWord c i)
  | .reservedReq0010010xx r _ => encodeRequest r (requestWord c i)
  | .reservedReq00100111x r _ => encodeRequest r (requestWord c i)
  | .reservedReq01100x r _ _ => encodeRequest r (requestWord c i)
  | .reservedReq0Asz011 r _ _ => encodeRequest r (requestWord c i)
  | .reservedReq1Asz100 r _ _ => encodeRequest r (requestWord c i)
  | .specialNop r => .special r
  | .specialShutdown r => .special r
  | .specialFlush r => .special r
  | .specialHalt r => .special r
  | .specialSync r => .special r
  | .specialStopgrantAck r => .special r
  | .specialXtprUpdate r => .special r
  | .specialReserved r => .special r
  | .fc _ => .named i
  | .cpuid _ => .named i
  | .eoi => .named i
  | .tlbPurge _ => .named i
  | .halt => .named i
  | .shutdown => .named i
  | .stopgrantAck => .named i
  | .invd => .named i
  | .wbinvd => .named i
  | .xtprUpdate _ _ => .named i
  | .loadStoreFetch _ => .named i

/-- The level of SMWP at which the words of `i` are `i`: high for a write to the protected scratch EEPROM (R421). -/
def Instr.smwpLevel : Instr → Bool
  | .eeWriteProtected _ _ _ => true
  | _ => false

/-! ### The words of spec/opcode_table.json -/

/-- The sensor the table's words are sent to: address 52h, the straps' unconnected levels (R143, R383). -/
def tableSensor : SmbAddr := 0b0101001#7

/-- The command byte `c` in the packet its row names (R150): read byte, write byte with data 00h, or send byte. -/
def commandPacket (c : Byte) : List HostItem :=
  if isWriteCommand c then packetWrite tableSensor [c, 0x00]
  else if isSendCommand c then packetWrite tableSensor [c]
  else packetWriteRead tableSensor c 0

/-- Whether the table's eight-bit word is a sensor command's code. -/
def isSensorCommand (c : Byte) : Bool := isReadCommand c || isWriteCommand c || isSendCommand c

/-- Whether the table's eight-bit word is the address byte of a read that is no memory's, no reserved one's. -/
def isReceiveByte (b : Byte) : Bool := b.getLsbD 0 && isSensorAddress (byteAddress b)

/-- The priority agent's clock b: DID[9] = 1, every other pin 0. The table gives the address pins no bits, and a
request from the priority agent may carry any DSZ (R107). -/
def tableClockB : AddrPins := (0x200#10 : BitVec 10).zeroExtend 47 <<< 13

/-- A special request whose code is `be`. -/
def tableSpecial (be : BitVec 8) : Request := { addr := 0, b := { clockB tableClockB with be }, dsz := 0b01#2 }

/-- The eight-bit rows: the address byte of a current address read or of the ARA, a sensor command byte, a special
transaction's code, the address byte of a receive byte. The rows' words overlap (01h is RRT, Shutdown and a receive
byte's pattern); the order here is the model's (log 7). -/
def tableByte (b : Byte) : Fetch :=
  if b &&& 0xF1 = 0xA1 then .packet [.start, .byte b, .nack, .stop]
  else if b = 0x19 then .packet [.start, .byte b, .nack, .stop]
  else if isSensorCommand b then .packet (commandPacket b)
  else if b = 0x00 ∨ b = 0x06 then .special (tableSpecial b)
  else if isReceiveByte b then .packet [.start, .byte b, .nack, .stop]
  else .packet (commandPacket b)

/-- The twelve-bit rows: REQa and REQb with the pins of `tableClockB` and address 0. -/
def tableRequest (w : BitVec 12) : Fetch :=
  .request { pins := 0, req := w.extractLsb' 6 6 } { pins := tableClockB, req := w.extractLsb' 0 6 }

/-- The twenty-four-bit rows: three bytes, the first in bits 23:16 as the table's matches write them. A third byte that
is the first with R = 1 makes a random read; any other makes a write. -/
def tablePacket (b0 b1 b2 : Byte) : Fetch :=
  if b2 = b0 ||| 1 then .packet [.start, .byte b0, .byte b1, .start, .byte b2, .nack, .stop]
  else .packet [.start, .byte b0, .byte b1, .byte b2, .stop]

/-- The words of an opcode-table row as they travel. -/
def tableFetch (nbits w : Nat) : Fetch :=
  if nbits ≤ 8 then tableByte (BitVec.ofNat 8 w)
  else if nbits ≤ 16 then tableRequest (BitVec.ofNat 12 w)
  else tablePacket (BitVec.ofNat 8 (w / 65536)) (BitVec.ofNat 8 (w / 256)) (BitVec.ofNat 8 w)

/-- The instruction the decoder reads from a table word, the lost cells at the spec's default. -/
def decodeTableWord (nbits w : Nat) : Option Instr :=
  match decode OpenCells.default false (tableFetch nbits w) with
  | .instr i => some i
  | _ => none

end Sys2Proof
end

