-- ==== Sys2Proof/Machine/State.lean ====
section
/-! DEFINITION. The state of one processor package on its bus: the core, the system bus agent, the two SMBus memories,
the thermal sensing device, the thermal and power monitors, the platform's straps, physical memory, and the script of
what the environment does next. Plain data throughout. INVENTORY.md, "State", lists every field with its rule. -/

namespace Sys2Proof.Machine

/-- The machine stops with a fault. -/
inductive Fault where
  /-- Raised by LOAD_STORE_FETCH for a byte address of 2^50 or more: no pin carries it (R101). Safe: the model stops. -/
  | physicalAddress
  deriving DecidableEq, Repr

/-- No meaning: the step relation does not admit the input (the treatment `refuse` of 93_implementation_defined.md).
Every one of them is safe: a theorem about a next state says nothing of what was refused. -/
inductive Refusal where
  /-- The instruction has no meaning in the model yet. Raised by the dispatch only. Safe. -/
  | notModelled (mnemonic : String)
  /-- Raised by a memory request whose ASZ is reserved or disagrees with A[49:36] (U1). Safe. -/
  | aszReserved
  /-- Raised by a request of a Reserved row of Table A-10 (U2, R613). Safe. -/
  | reservedRequest
  /-- Raised by a request word that matches no row of Table A-10 (U2, R164). Safe. -/
  | noRow
  /-- Raised by a special transaction with a reserved code (U2, R621). Safe. -/
  | reservedSpecial
  /-- Raised by an SMBus packet addressed to 0000XXX (U3, R145). Safe. -/
  | reservedAddress
  /-- Raised by a reserved sensor command or a command in the wrong packet (U4, R450). Safe. -/
  | reservedCommand
  /-- Raised by a write of a reserved CONFIG bit or a reserved conversion rate (U7, R77, R78). Safe. -/
  | reservedValue
  /-- Raised by TERMA and TERMB strapped apart (U8, R179). Safe. -/
  | termination
  /-- Raised by a measured quantity outside its limits (U9, R219). Safe. -/
  | outOfSpec
  /-- Raised by events that form no packet, sent to a device of the package (U10, R417, R422). Safe. -/
  | malformedPacket
  /-- Raised by a signal of a single driver that two agents drive, or a second ADS# in clock b (U11, R491). Safe. -/
  | contention
  /-- Raised at the end of RESET# when not exactly one BR pin is sampled asserted (U13, R631). Safe. -/
  | identity
  /-- Raised by a parity mismatch when the agent may not drive BERR# (U14, R720). Safe. -/
  | parity
  /-- Raised by a reset that violates a timing requirement (U15, R771, R773). Safe. -/
  | resetTiming
  /-- Raised by the release of RESET# after a trip while the case is too hot (U16, R803). Safe. -/
  | hotReset
  /-- Raised by a bus ratio code that is reserved or not the part's (U17, R776). Safe. -/
  | busRatio
  /-- Raised by a request with ATTR[2:0] = 001, 010 or 011 (U18, R103). Safe. -/
  | attrReserved
  /-- Raised by a request of a symmetric agent with DSZ other than 01 (U19, R107). Safe. -/
  | dszReserved
  /-- Raised by a memory request with a reserved length (R106). Safe. -/
  | lenReserved
  /-- Raised by a transfer of 16 bytes or more that is not naturally aligned (R108, D4). Safe. -/
  | misaligned
  /-- Raised by two packages strapped to one SMBus address (U21, R385). Safe. -/
  | sharedStraps
  /-- Raised by a change of SMWP inside a packet (U22, R421). Safe. -/
  | smwpChanged
  /-- Raised by different parts on one system bus (U26, R14). Safe. -/
  | mixedParts
  /-- Raised by more symmetric agents than the bus admits (R630). Safe. -/
  | agentCount
  /-- Raised by the release of RESET# while memory does not hold PAL code at RESET_VECTOR (R111). Safe. -/
  | noPalCode
  deriving DecidableEq, Repr

/-! ### Parts and platform -/

/-- The ten parts of the SKU table (R11). -/
inductive Sku where
  | f900c1p5 | f1000c3 | f1300c3 | f1400c4 | f1500c6 | f1500c4 | f1600c6 | f1600c9 | f1660c6 | f1660c9
  deriving DecidableEq, Repr

/-- The levels of the SMA2 strap (R383). -/
inductive Strap3 where
  | low | floating | high
  deriving DecidableEq, Repr

/-- The four fields of CPUID[3] (R36), constants of the unit. -/
structure Cpuid3 where
  archrev : Byte
  family : Byte
  model : Byte
  revision : Byte
  deriving DecidableEq, Repr

/-- The power states of Table 2-24 as the power pod sees them (R87). -/
inductive PowerState where
  | off | first | second | third | normal | thermalTripShutdown
  deriving DecidableEq, Repr

/-- One overshoot or undershoot measured (R233 to R236): on a wired-OR signal or a source synchronous one, its magnitude
in millivolts, the column of its activity factor, the pulse duration in tenths of a picosecond. The magnitude of both is
measured against GND, as R231 and R234 have it, though note 3 of R235 names VCTERM for an undershoot; only the seven tabled
activity factors exist, and which column stands for one between them is the environment's (DESIGN CHOICE both, log 35). -/
structure Overshoot where
  wiredOr : Bool
  isUnder : Bool
  magnitude : Int
  af : Fin 7
  duration : Nat
  deriving DecidableEq, Repr

/-- Another package of the platform: its straps, its part, the SMBus it stands on (0 is this package's) and whether it
stands on this package's system bus (R14, R385, R630). -/
structure Neighbour where
  sma0 : Bool
  sma1 : Bool
  sma2 : Strap3
  sku : Sku
  smbus : Nat
  systemBus : Bool
  deriving DecidableEq, Repr

/-- What the platform and the unit fix (R13, 93_implementation_defined.md section 4.2). -/
structure Platform where
  sku : Sku
  sma0 : Bool
  sma1 : Bool
  sma2 : Strap3
  smwp : Bool
  terma : Bool
  termb : Bool
  vid : BitVec 5
  nAgents : Nat
  /-- CPUID[3] (R36). -/
  cpuid3 : Cpuid3
  /-- The IA-32 processor core feature flags, from the 32 bit CPUID (R36). -/
  ia32Features : BitVec 32
  /-- The processor core feature flags of the Itanium processor family (R36). -/
  ipfFeatures : BitVec 64
  /-- The lowest address of another sensor on the SMBus whose alert latch is set (R447, D33). -/
  araRival : Option SmbAddr
  /-- The 3.3 V supply of the SMBus devices (R65). -/
  smbusPower : Bool
  pwrgood : Bool
  /-- The model's own: PWRGOOD has been low since RESET# was last asserted: the reset in progress is a cold one (R771,
  R772). -/
  pwrgoodLow : Bool
  powerState : PowerState
  /-- The resistors at TUNER1 and TUNER2 in ohms (R207, R310). -/
  tuner1 : Nat
  tuner2 : Nat
  /-- The cells of Table A-10 the source lost (R162, R163, D13). -/
  cells : OpenCells
  /-- `die_temp` in degrees Celsius, the one temperature both sensing paths share (R350, D22). -/
  dieTemp : Int
  /-- The overshoot and undershoot events measured so far (R233, R236). -/
  overshoots : List Overshoot
  deriving DecidableEq, Repr

/-! ### The SMBus devices -/

/-- One SMBus memory: 128 bytes and the address counter (R60 to R62). -/
structure Eeprom where
  mem : Vector Byte 128
  counter : BitVec 7
  deriving DecidableEq, Repr

/-- What a device of the package puts on the SMBus in answer (R382). -/
inductive DevItem where
  | ack
  | nack
  | data (b : Byte)
  deriving DecidableEq, Repr

/-- The thermal sensing device (R70 to R80). Times are in microseconds. -/
structure Sensor where
  /-- TEMP (R71). -/
  temp : Byte
  /-- TEMP_INTERNAL, which no admitted command reaches (R72). -/
  tempInternal : Byte
  /-- STATUS bit 4 (R74). -/
  rhigh : Bool
  /-- STATUS bit 3 (R74). -/
  rlow : Bool
  /-- STATUS bit 2 (R74). -/
  openFault : Bool
  /-- CONFIG; bit 6 is RUN/STOP, the mode of R80 (R77). -/
  config : Byte
  /-- CONVRATE (R78). -/
  convrate : Byte
  /-- The reserved registers behind 05h and 06h (R72). -/
  rsv05 : Byte
  rsv06 : Byte
  thigh : Byte
  tlow : Byte
  /-- `cmd_pointer` (R79). -/
  cmdPointer : Byte
  /-- `cmd_valid_for_receive` (R79). -/
  cmdValid : Bool
  /-- `alert_latch`, which drives THRMALERT# (R76). -/
  alertLatch : Bool
  /-- `converting`, STATUS bit 7 (R74, R80). -/
  converting : Bool
  /-- The time left of the conversion in progress (R457). -/
  convLeft : Nat
  /-- `rate_timer`: the time until the next automatic conversion (R80). -/
  rateTimer : Nat
  /-- The device's actual conversion rate in thousandths of the nominal one, 750 to 1250 (R455). -/
  rateMill : Nat
  /-- `open_cond`: the diode connection is open (R461). -/
  openCond : Bool
  deriving DecidableEq, Repr

/-! ### Thermal monitor -/

/-- `thermal_state` (R85). -/
inductive ThermalMode where
  | normal | etmLowPower | tripped
  deriving DecidableEq, Repr

/-- The processor's thermal state machine (R85, R86). -/
structure Thermal where
  mode : ThermalMode
  /-- `etm_below_time` in microseconds. -/
  belowTime : Nat
  /-- `thrmtrip_out`: THRMTRIP# asserted. -/
  thrmtrip : Bool
  /-- `ETM_ENABLED`: not disabled through PAL (R361, R364). -/
  etmEnabled : Bool
  /-- The model's own: a thermal trip came before the reset in progress (R366, R803). -/
  afterTrip : Bool
  deriving DecidableEq, Repr

/-! ### The core -/

/-- `LINT0_mode` (R38). -/
inductive Lint0Mode where
  | disabled | int | other
  deriving DecidableEq, Repr

/-- `LINT1_mode` (R38). -/
inductive Lint1Mode where
  | disabled | nmi | other
  deriving DecidableEq, Repr

/-- The events the core takes (R701). -/
inductive Event where
  | mca | pmi | init | nmi | cmci
  /-- INT, or an Interrupt transaction: an external interrupt with its vector. -/
  | ext
  | local0 | local1
  deriving DecidableEq, Repr

/-- Events recognised and not yet taken. -/
structure Pending where
  mca : Bool
  pmi : Bool
  init : Bool
  /-- NMI recognised, its service routine to be entered (R705). -/
  nmi : Bool
  /-- CMCIs are counted, not merged (R708). -/
  cmci : Nat
  /-- Vectors of Interrupt transactions (R604). -/
  ext : List Byte
  local0 : Bool
  local1 : Bool
  deriving DecidableEq, Repr

/-- One record of the `saved` stack (R731, R733). -/
structure Saved where
  pc : VirtAddr
  intMasked : Bool
  event : Event
  vector : Byte
  deriving DecidableEq, Repr

/-- Why the core executes, or does not (R88, R665, R666). -/
inductive RunState where
  | running
  /-- After HALT. -/
  | halted
  /-- After SHUTDOWN. -/
  | shutdown
  /-- In reset, tristated or tripped. -/
  | stopped
  deriving DecidableEq, Repr

/-- What the core waits for before its next step. -/
inductive CoreWait where
  | none
  /-- A TLB Purge: its transaction is not yet completed on the bus (R664). -/
  | purgeBus
  /-- A TLB Purge: the transaction is completed, TND# is still to be sampled deasserted (R664). -/
  | purgeTnd
  /-- The vector of an interrupt acknowledge (R704). -/
  | intAck
  deriving DecidableEq, Repr

/-- One valid line of the caches, all levels together (R41). -/
structure CacheLine where
  line : LineAddr
  modified : Bool
  data : LineData
  deriving DecidableEq, Repr

/-- Why a request was handed to the bus interface. -/
inductive Purpose where
  | load | fetch | store | ioRead | ioWrite | flush | special | purge | writeback | intAck | core
  deriving DecidableEq, Repr

/-- What a completed request of the core brought back. -/
structure Completion where
  purpose : Purpose
  addr : AddrPins
  len : BitVec 3
  endian : Endian
  data : LineData
  /-- The final cache status: another agent holds the line (R525, R623). -/
  hit : Bool
  deriving DecidableEq, Repr

/-- The processor core (R30 to R42, R88). -/
structure Core where
  gr : Vector (BitVec Config.grWidth) 128
  fr : Vector (BitVec Config.frWidth) 128
  pr : Vector Bool Config.prCount
  pc : VirtAddr
  run : RunState
  wait : CoreWait
  xtprValue : BitVec 4
  xtprDisable : Bool
  lint0 : Lint0Mode
  lint1 : Lint1Mode
  nmiInService : Bool
  nmiPending : Bool
  intMasked : Bool
  pending : Pending
  saved : List Saved
  cache : List CacheLine
  tlb : List PurgeRange
  /-- The model's own: the value the last CPUID read returned (R662). -/
  cpuidOut : BitVec 64
  /-- The model's own: results of completed requests, oldest first, for the opaque core to use. -/
  inbox : List Completion
  deriving DecidableEq, Repr

/-! ### The system bus agent -/

/-- The options of the power-on configuration that are sampled from A[49:3]# (R45, R178). -/
structure PocOptions where
  binitObserve : Bool
  binitDrive : Bool
  berrSample : Bool
  berrOnInternal : Bool
  berrOnBus : Bool
  eccCheck : Bool
  ierrMode : Bool
  outputTristate : Bool
  deriving DecidableEq, Repr

/-- The power-on configuration record `poc` (R45): the ratio 2/N as its N, and the options. -/
structure Poc where
  ratio : Nat
  opts : PocOptions
  deriving DecidableEq, Repr

/-- The response kinds of R624. -/
inductive RespKind where
  | normal | retry | deferred | implicitWriteback | failure
  deriving DecidableEq, Repr

/-- The snoop result of a transaction (R600, R623). -/
structure SnoopResult where
  hit : Bool
  hitm : Bool
  defer : Bool
  gseq : Bool
  deriving DecidableEq, Repr

/-- A request handed to the bus interface by the core (R660 b): the bus row with its operands, and the write data. -/
structure OutReq where
  instr : Instr
  purpose : Purpose
  endian : Endian
  data : LineData
  /-- It is issued only after the write-backs before it have completed, as WBINVD's Sync is (R669). -/
  barrier : Bool
  deriving DecidableEq, Repr

/-- One transaction of the in-order queue (R600). -/
structure Txn where
  row : BusRow
  req : Request
  /-- REQa[1]: D/C# or WSNP#. -/
  req1 : Bool
  len : BitVec 3
  /-- The request of this processor it carries out, if this processor issued it. -/
  src : Option OutReq
  /-- The code of a special transaction once decoded (R164, R170). -/
  special : Option SpecialKind
  snoop : Option SnoopResult
  /-- This processor answered HITM# and supplies the line (R623). -/
  supplies : Bool
  response : Option RespKind
  /-- TRDY# has been sampled (R625). -/
  trdy : Bool
  /-- The clock with DBSY# and SBSY# that precedes the first transfer has been driven (R625). -/
  lead : Bool
  /-- How many 128-bit words have been transferred. -/
  got : Nat
  /-- The data of the transaction, the first word lowest. -/
  buf : LineData
  /-- The line of an implicit writeback (R119, R625). -/
  wbuf : LineData
  /-- The transaction is completed through a Deferred Reply or a deferred phase (R601, R626). -/
  reply : Bool
  /-- A Bus Invalidate Line transaction that is answered with one whole line (R106, R118, R608). -/
  bilLine : Bool
  deriving DecidableEq, Repr

/-- What this processor drives (R53). The copies DBSY_C1#, DBSY_C2# and so on equal the signals they copy (R520). -/
structure PinsOut where
  ads : Bool
  /-- A[49:3]#, REQ[5:0]#, AP[1:0]# and RP# are driven: clock a or clock b of an own request. -/
  drivesReq : Bool
  a : AddrPins
  req : BitVec 6
  ap : BitVec 2
  rp : Bool
  berr : Bool
  binit : Bool
  dbsy : Bool
  drdy : Bool
  sbsy : Bool
  d0 : DataWord
  d1 : DataWord
  ferr : Bool
  deriving DecidableEq, Repr

/-- How an asynchronous pin stands: the level last sampled and for how many clocks, the level the core acts on (R572). -/
structure AsyncPin where
  level : Bool
  clocks : Nat
  seen : Bool
  deriving DecidableEq, Repr

/-- The system bus agent (R45 to R53). -/
structure Bus where
  poc : Poc
  /-- `arb_id`; `agent_id` is twice it (R46). -/
  arbId : BitVec 2
  rotatingId : BitVec 2
  owner : Option (BitVec 2)
  breqOut : Bool
  /-- `breq_deasserted_clocks` (R49). -/
  breqLow : Nat
  /-- `bus_stalled` (R52). -/
  stalled : Bool
  /-- `bpri_seen` (R52). -/
  bpriSeen : Bool
  /-- Clocks since the last ADS# (R622). -/
  sinceAds : Nat
  /-- Clock a of a request whose clock b is the next one (R160). -/
  latchA : Option ClockWord
  /-- The own requests whose clock a has been driven and whose request phase is not over, oldest first (R622). -/
  issuing : List OutReq
  /-- Clock b of the own request, to be driven next. -/
  nextB : Option ClockWord
  /-- Requests handed over and not yet issued, in the order in which they were handed over, which is not that in which they
  are issued (R114, R660 b). -/
  outQ : List OutReq
  /-- The in-order queue, oldest first (R600). -/
  ioq : List Txn
  /-- The deferred transactions by their DID; those of this agent are the table `deferred` of R51. -/
  deferred : List (Did × Txn)
  /-- IDa[9:0] of a deferred phase whose second clock is the next one (R626). -/
  idLatch : Option Did
  /-- The purges this processor is still carrying out; it holds TND# asserted while there is one (R42, R664). -/
  tlbPurging : List PurgeRange
  out : PinsOut
  lint0 : AsyncPin
  lint1 : AsyncPin
  init : AsyncPin
  pmi : AsyncPin
  /-- RESET# is sampled asserted (R770). -/
  inReset : Bool
  /-- The bus clocks left of the configuration window after RESET# (R771, R777, R780, D41). -/
  configClocks : Nat
  deriving DecidableEq, Repr

/-! ### What the environment does next -/

/-- `ecc_status` of a transferred word (R721): the check matrix is not in the source, so the environment supplies what
the check finds. -/
inductive EccStatus where
  | ok
  /-- A single-bit error: the data is corrected and accepted. -/
  | single
  /-- A double-bit or nibble error: detected, not corrected. -/
  | uncorrectable
  deriving DecidableEq, Repr

/-- What the other agents drive in one bus clock, with the choices the environment makes in it. -/
structure Pins where
  ads : Bool
  a : AddrPins
  req : BitVec 6
  /-- AP[1:0]#, if the initiator drives it (R172). -/
  ap : Option (BitVec 2)
  rp : Bool
  /-- BR[3:1]#. -/
  br : BitVec 3
  bpri : Bool
  bnr : Bool
  /-- This clock is the snoop phase of the oldest transaction that has none (R623). -/
  snoopPhase : Bool
  hit : Bool
  hitm : Bool
  defer : Bool
  gseq : Bool
  /-- RS[2:0]# and RSP#. -/
  rs : BitVec 3
  rsp : Bool
  trdy : Bool
  dbsy : Bool
  drdy : Bool
  sbsy : Bool
  /-- The words on D[127:0]#; none: the responding memory drives what it holds. -/
  d : Option (DataWord × DataWord)
  /-- What the ECC check of DEP[15:0]# finds in the four protected words of 64 bits these two words are, the least
  significant first (R721). -/
  ecc : Vector EccStatus 4
  /-- IDS# and ID[9:0]# (R171). -/
  ids : Bool
  id : BitVec 10
  berr : Bool
  binit : Bool
  tnd : Bool
  lint0 : Bool
  lint1 : Bool
  init : Bool
  pmi : Bool
  /-- Whether a pulse of one clock is seen, one choice for each pin: LINT0, LINT1, INIT#, PMI# (U12). -/
  shortSeen : BitVec 4
  /-- The core does not let its bus interface start a request in this clock (R660). -/
  holdIssue : Bool
  /-- Which of the requests handed over and not yet issued (`Bus.outQ`, from 0) is the one this processor may start in this
  clock: no order between what the core does and what reaches the bus is promised (R114, R660 b, D5). -/
  pick : Nat
  /-- The symmetric owner does not release the bus in this clock yet (R636). -/
  holdBus : Bool
  /-- This processor deasserts its BREQ# in this clock: it withdraws before ownership or parks no longer (R635, R637). -/
  dropBreq : Bool
  /-- This processor requires a snoop stall in this clock (R119, R536). -/
  snoopStall : Bool
  /-- This processor inserts an idle clock into its data transfer (R528, R625). -/
  holdData : Bool
  /-- A Bus Invalidate Line transaction answered or completed in this clock returns a whole line (R106, R608). -/
  bilLine : Bool
  /-- The ignored pins (R501, R539, R545, R511). -/
  a20m : Bool
  ignne : Bool
  lock : Bool
  bpm : BitVec 6
  deriving DecidableEq, Repr

/-- The internal steps of the opaque core (R660 a, D1): what firmware and software the source does not describe do to
the state it names. -/
inductive CoreAct where
  /-- A step with no visible effect. -/
  | internal
  | writeGr (i : Fin 128) (v : BitVec Config.grWidth)
  | writeFr (i : Fin 128) (v : BitVec Config.frWidth)
  | writePr (i : Fin Config.prCount) (v : Bool)
  | branch (pc : VirtAddr)
  /-- Mask or unmask INT (R40). -/
  | mask (m : Bool)
  /-- Software configures LINT[0] and LINT[1] (R707). -/
  | configureLint0 (m : Lint0Mode)
  | configureLint1 (m : Lint1Mode)
  /-- Firmware enables or disables ETM through PAL (R361). -/
  | etm (enabled : Bool)
  /-- The opaque return of R733. -/
  | ret
  /-- A line enters the caches, changes or leaves them without a bus transaction (R41). -/
  | cacheSet (c : CacheLine)
  | cacheDrop (line : LineAddr)
  /-- A translation enters the TLB (R42). -/
  | tlbInsert (r : PurgeRange)
  /-- One bus request is handed to the bus interface (R660 b). -/
  | request (i : Instr) (data : LineData) (endian : Endian)
  /-- The oldest completion is consumed. -/
  | consume
  /-- An internal error of the core (R709, R715); whether FERR# is asserted is not in the source. -/
  | internalError (ferr : Bool)
  /-- A bus condition that prevents reliable future operation (R710). -/
  | fatalBusCondition
  deriving DecidableEq, Repr

/-- What is sampled and what was kept at the end of RESET# (R771 to R778). Times in nanoseconds and bus clocks. -/
structure ResetRelease where
  /-- A cold reset: PWRGOOD rose while RESET# was asserted (R771). -/
  cold : Bool
  /-- From the assertion of RESET# (warm) or of PWRGOOD with BCLK in specification (cold) to the deassertion. -/
  heldNs : Nat
  /-- A[21:17]# carried the ratio code the entire time. -/
  ratioHeld : Bool
  /-- Clocks for which the other configuration signals were valid before the edge, and after it. -/
  setupClocks : Nat
  holdClocks : Nat
  /-- Clocks for which A[21:17]# stayed valid after the edge (R771, item 4). -/
  ratioHoldClocks : Nat
  /-- The set-up of the edge to BCLK, in hundredths of a nanosecond: Ta ≥ 1.15 ns. -/
  taCentiNs : Nat
  /-- A[21:17]#. -/
  ratioPins : BitVec 5
  /-- BR[3:0]# at the edge. -/
  br : BitVec 4
  opts : PocOptions
  /-- The case temperature in degrees Celsius (R803). -/
  tcase : Int
  /-- The PAL code the platform provides at RESET_VECTOR; its bytes are not in the source (R111, N4). -/
  pal : List Byte
  deriving DecidableEq, Repr

/-- A quantity the electrical, clock and thermal tables bound; the unit stands in its docstring. -/
inductive Quantity where
  /-- VCTERM in microvolts, DC tolerance (R210). -/
  | vctermUv
  /-- VCTERM in microvolts with the additional AC tolerance (R210, note 1). -/
  | vctermAcUv
  /-- VCCTAP in microvolts (R210). -/
  | vtapUv
  /-- ICTERM in milliamperes (R210). -/
  | ictermMa
  /-- PWRMAX in milliwatts (R210). -/
  | pwrMaxMw
  /-- PWRTDE in milliwatts (R210). -/
  | pwrTdeMw
  /-- PWRTDP, the thermal design power, in milliwatts (R211). -/
  | pwrTdpMw
  /-- The termination resistance in milliohms: 45 ohm, with 15 % on the die, 1 % off it (R206, R210). -/
  | rtermMilliohm
  /-- The deviation of VCC,PS from the VID voltage in parts per million (R212). -/
  | vccDeviationPpm
  /-- ICC,PS in milliamperes (R212). -/
  | iccPsMa
  /-- The supply slew rate in milliamperes per microsecond (R212). -/
  | psSlewMaPerUs
  /-- PS_TT in microamperes per nanosecond (R212). -/
  | psTtUaPerNs
  /-- AGTL+ VIL in microvolts (R213). -/
  | agtlVilUv
  /-- AGTL+ VIH in microvolts (R213). -/
  | agtlVihUv
  /-- AGTL+ VOL in microvolts (R213). -/
  | agtlVolUv
  /-- AGTL+ VOH in microvolts: VCTERM minimum to maximum (R213). -/
  | agtlVohUv
  /-- AGTL+ leakage in microamperes (R213). -/
  | agtlLeakageUa
  /-- PWRGOOD VIL in microvolts (R214). -/
  | pwrgoodVilUv
  /-- PWRGOOD VIH in microvolts (R214). -/
  | pwrgoodVihUv
  /-- The clock's VIH in microvolts (R215). -/
  | clockVihUv
  /-- The clock's VIL in microvolts (R215). -/
  | clockVilUv
  /-- The clock's crossover voltage in microvolts (R215). -/
  | clockVxUv
  /-- The clock pad capacitance in femtofarads (R215). -/
  | clockPadFf
  /-- TAP VIL in microvolts (R216). -/
  | tapVilUv
  /-- TAP VIH in microvolts (R216). -/
  | tapVihUv
  /-- TAP VOL in microvolts (R216). -/
  | tapVolUv
  /-- TAP VOH in microvolts (R216). -/
  | tapVohUv
  /-- The voltage at TDO in microvolts (R216, note 3). -/
  | tdoUv
  /-- TAP IOL in microamperes (R216). -/
  | tapIolUa
  /-- TAP input current in microamperes (R216). -/
  | tapIicUa
  /-- The 3.3 V supply in microvolts (R217). -/
  | smbus33Uv
  /-- SMBus VIL in microvolts (R217). -/
  | smbusVilUv
  /-- SMBus VIH in microvolts (R217). -/
  | smbusVihUv
  /-- SMBus VOL in microvolts (R217). -/
  | smbusVolUv
  /-- The 3.3 V supply current in microamperes (R217). -/
  | smbusI33Ua
  /-- SMBus IOL in microamperes (R217). -/
  | smbusIolUa
  /-- IOL2 of THRMALERT# in microamperes (R217). -/
  | thrmalertIolUa
  /-- SMBus input leakage in microamperes (R217). -/
  | smbusIliUa
  /-- SMBus output leakage in microamperes (R217). -/
  | smbusIloUa
  /-- LVTTL VIL in microvolts (R218). -/
  | lvttlVilUv
  /-- LVTTL VIH in microvolts (R218). -/
  | lvttlVihUv
  /-- LVTTL VOL in microvolts (R218). -/
  | lvttlVolUv
  /-- LVTTL VOH in microvolts (R218). -/
  | lvttlVohUv
  /-- The BCLK frequency in megahertz (R220). -/
  | bclkMhz
  /-- The clock skew in picoseconds (R220). -/
  | bclkSkewPs
  /-- The clock jitter in picoseconds (R220). -/
  | bclkJitterPs
  /-- The clock's high time in picoseconds (R220). -/
  | bclkHighPs
  /-- The clock's low time in picoseconds (R220). -/
  | bclkLowPs
  /-- The clock's rise time in picoseconds (R220). -/
  | bclkRisePs
  /-- The clock's fall time in picoseconds (R220). -/
  | bclkFallPs
  /-- The clock's input swing in microvolts (R220). -/
  | bclkSwingUv
  /-- The SMSC frequency in hertz (R221). -/
  | smscHz
  /-- The SMSC period in nanoseconds (R221). -/
  | smscPeriodNs
  /-- The SMSC high time in nanoseconds (R221). -/
  | smscHighNs
  /-- The SMSC low time in nanoseconds (R221). -/
  | smscLowNs
  /-- The SMSC rise time in nanoseconds (R221). -/
  | smscRiseNs
  /-- The SMSC fall time in nanoseconds (R221). -/
  | smscFallNs
  /-- The SMBus output valid delay in nanoseconds (R221). -/
  | smbusValidNs
  /-- The SMBus input set-up time in nanoseconds (R221). -/
  | smbusSetupNs
  /-- The SMBus input hold time in nanoseconds (R221). -/
  | smbusHoldNs
  /-- The SMBus free time in nanoseconds (R221). -/
  | smbusFreeNs
  /-- The storage temperature in degrees Celsius (R225). -/
  | storageC
  /-- The shipping temperature in degrees Celsius (R225). -/
  | shippingC
  /-- Any VCC,Processor voltage in microvolts (R225). -/
  | vccAbsUv
  /-- Any 3.3 V supply voltage in microvolts (R225). -/
  | v33AbsUv
  /-- The SMBus buffer input voltage in microvolts (R225). -/
  | vinSmbusAbsUv
  /-- The AGTL+ buffer input voltage in microvolts (R225). -/
  | vinAgtlAbsUv
  /-- Any VCTERM voltage in microvolts (R225). -/
  | vctermAbsUv
  /-- The TAP buffer input voltage in microvolts (R225). -/
  | vinTapAbsUv
  /-- The case temperature in degrees Celsius (R368). -/
  | tcaseC
  deriving DecidableEq, Repr

/-- One event: which agent moves next, and with what. -/
inductive Input where
  /-- The SMBus host sends a packet (R382). -/
  | packet (items : List HostItem)
  /-- A packet during which SMWP changes (U22). -/
  | packetSmwpChange (items : List HostItem)
  /-- One bus clock (R492). -/
  | clock (p : Pins)
  /-- The core executes one of the named instructions (R660 d). -/
  | core (i : Instr)
  /-- The core makes an internal step (R660 a, b). -/
  | coreAct (a : CoreAct)
  /-- The core takes the pending event of the highest priority (R660 c). -/
  | coreInterrupt
  /-- The caches and translation buffers have carried out the purge at the head of the list (R664). -/
  | purgeDone
  /-- Time passes for the sensor; a conversion may start and may end. `error` is how far the reading it then makes lies from
  the die temperature, in thousandths of a degree (R350, R460). -/
  | sensorTime (us : Nat) (error : Int)
  /-- The sensor's diode connection opens or closes (R461). -/
  | diode (isOpen : Bool)
  /-- The sensor's actual rate, in thousandths of the nominal one (R455). -/
  | sensorRate (mill : Nat)
  /-- The die temperature is now this, in degrees Celsius (R350, D22). -/
  | dieTemp (t : Int)
  /-- Time passes for the thermal monitor (R360). -/
  | thermal (us : Nat)
  /-- RESET# is sampled asserted (R770). -/
  | resetAssert
  /-- RESET# is released (R770). -/
  | resetRelease (r : ResetRelease)
  | pwrgood (level : Bool)
  /-- The 3.3 V supply is applied, with the converter's first state (D9), or removed (R65). -/
  | smbusPower (on : Bool) (busy : Bool)
  /-- The SMWP pin is driven (R411). -/
  | smwp (level : Bool)
  /-- Another sensor's alert stands on the SMBus, or none does (R447). -/
  | araRival (t : Option SmbAddr)
  /-- The power pod's load steps of Table 2-24 (R266). -/
  | power (next : PowerState)
  /-- A quantity is measured (R219). -/
  | measure (q : Quantity) (value : Int)
  /-- An overshoot or undershoot is measured (R234). -/
  | overshoot (e : Overshoot)
  /-- The platform's straps, its TUNER resistors and the other packages on the two buses are what they are (R14, R206,
  R207, R310, R385, R630). -/
  | platformCheck (terma termb : Bool) (tuner1 tuner2 : Nat) (others : List Neighbour)
  deriving DecidableEq, Repr

/-! ### The whole -/

/-- Physical memory: (address, byte) pairs (R101). -/
abbrev Memory := List Host.Cell

/-- The whole state. -/
structure State where
  core : Core
  bus : Bus
  pirom : Eeprom
  scratch : Eeprom
  sensor : Sensor
  thermal : Thermal
  platform : Platform
  /-- What the devices of the package answered to the last packet. -/
  answer : List DevItem
  /-- Physical memory, the responder's: strictly rising addresses, no zero byte (R101). -/
  mem : Memory
  /-- A special transaction observed whose code is still to be read (R164). -/
  special : Option Request
  /-- What the environment does next, first first. -/
  inputs : List Input
  /-- The model's own counter of free values drawn. -/
  free : Nat
  deriving DecidableEq, Repr

/-! ### Reset -/

/-- The PIROM image of 95_test_vectors.md section 2.4: a 1.0 GHz / 3 MB production part. -/
def piromImage : Vector Byte 128 :=
  #v[0x00, 0x80, 0x00, 0x0E, 0x17, 0x28, 0x37, 0x3E, 0x63, 0x67, 0x7A, 0x00, 0x00, 0x7A, 0x53, 0x31,
     0x32, 0x33, 0x00, 0x00, 0x01, 0x00, 0x16, 0x00, 0x00, 0x00, 0x00, 0x00, 0x00, 0x00, 0x00, 0x10,
     0x00, 0x02, 0x00, 0x15, 0x22, 0x22, 0x00, 0x95, 0x00, 0x00, 0x00, 0x00, 0x72, 0x30, 0x00, 0x00,
     0x00, 0x00, 0x00, 0x00, 0x00, 0x00, 0x5E, 0x49, 0x4E, 0x54, 0x32, 0x00, 0x00, 0xE3, 0x38, 0x30,
     0x35, 0x34, 0x32, 0x4B, 0x43, 0x00, 0x00, 0x00, 0x00, 0x00, 0x00, 0x00, 0x00, 0x00, 0x00, 0x00,
     0x00, 0x00, 0x00, 0x00, 0x00, 0x00, 0x00, 0x00, 0x00, 0x00, 0x00, 0x00, 0x00, 0x00, 0x00, 0x00,
     0x00, 0x00, 0x6F, 0x69, 0x00, 0x00, 0x97, 0xFF, 0xFB, 0x87, 0x43, 0x1B, 0x81, 0x80, 0x63, 0x00,
     0x00, 0x00, 0x00, 0x1E, 0x00, 0x00, 0x00, 0x01, 0x00, 0x9E, 0x00, 0x00, 0x00, 0x00, 0x00, 0x00]

/-- No event pending (R90: `nmi_pending` false; nothing has been recognised). -/
def Pending.none : Pending :=
  { mca := false, pmi := false, init := false, nmi := false, cmci := 0, ext := [], local0 := false, local1 := false }

/-- Every output deasserted (R53, R490). -/
def PinsOut.idle : PinsOut :=
  { ads := false, drivesReq := false, a := 0, req := 0, ap := 0, rp := false, berr := false, binit := false,
    dbsy := false, drdy := false, sbsy := false, d0 := 0, d1 := 0, ferr := false }

/-- An asynchronous pin that has been deasserted for a long time. -/
def AsyncPin.idle : AsyncPin := { level := false, clocks := 2, seen := false }

/-- The core after RESET#: the pc at the reset vector, the LINT pins disabled, the caches empty (R779); what no rule
gives is 0 (log 1). -/
def Core.reset : Core :=
  { gr := Vector.replicate 128 0, fr := Vector.replicate 128 0, pr := Vector.replicate _ false,
    pc := Config.resetPc, run := .running, wait := .none, xtprValue := 0, xtprDisable := false,
    lint0 := .disabled, lint1 := .disabled, nmiInService := false, nmiPending := false, intMasked := false,
    pending := Pending.none, saved := [], cache := [], tlb := [], cpuidOut := 0, inbox := [] }

/-- No option of the power-on configuration chosen (log 1). -/
def PocOptions.reset : PocOptions :=
  { binitObserve := false, binitDrive := false, berrSample := false, berrOnInternal := false, berrOnBus := false,
    eccCheck := false, ierrMode := false, outputTristate := false }

/-- The bus agent after RESET#: rotating ID 3, no owner, nothing outstanding, outputs deasserted (R779). BNR# and BPRI# as
last sampled, which have no reset value of their own (R52), are deasserted (DESIGN CHOICE, log 1); the count of clocks since
the last ADS# starts at 0 (R50; DESIGN CHOICE, log 18). -/
def Bus.reset : Bus :=
  { poc := { ratio := 10, opts := PocOptions.reset }, arbId := 0, rotatingId := 3, owner := none, breqOut := false,
    breqLow := 1, stalled := false, bpriSeen := false, sinceAds := 0, latchA := none, issuing := [], nextB := none,
    outQ := [], ioq := [], deferred := [], idLatch := none, tlbPurging := [], out := PinsOut.idle,
    lint0 := AsyncPin.idle, lint1 := AsyncPin.idle, init := AsyncPin.idle, pmi := AsyncPin.idle, inReset := false,
    configClocks := 0 }

/-- The sensor after its power-up reset (R90, third row; R431). -/
def Sensor.reset : Sensor :=
  { temp := 0, tempInternal := 0, rhigh := false, rlow := false, openFault := false, config := 0x00,
    convrate := 0x02, rsv05 := 0x7F, rsv06 := 0xC9, thigh := 0x7F, tlow := 0xC9, cmdPointer := 0x00,
    cmdValid := false, alertLatch := false, converting := false, convLeft := 0, rateTimer := 0, rateMill := 1000,
    openCond := false }

/-- The thermal monitor after RESET# (R85, R86). -/
def Thermal.reset : Thermal := { mode := .normal, belowTime := 0, thrmtrip := false, etmEnabled := true, afterTrip := false }

/-- A package with every strap at its unconnected level (R383, R411), of the 1.0 GHz / 3 MB part, on a die that is not above
the ETM entry temperature (log 10). -/
def Platform.reset : Platform :=
  { sku := .f1000c3, sma0 := false, sma1 := false, sma2 := .floating, smwp := false, terma := true, termb := true,
    vid := 0b01000, nAgents := 1, cpuid3 := { archrev := 0, family := 0, model := 0, revision := 0 },
    ia32Features := 0x4387FBFF, ipfFeatures := 0x000000006380811B, araRival := none, smbusPower := true,
    pwrgood := true, pwrgoodLow := false, powerState := .normal, tuner1 := 150, tuner2 := 150,
    cells := OpenCells.default, dieTemp := min 0 Config.tEtmEntry, overshoots := [] }

/-- The machine right after reset (R90, R779); the values no rule gives are named in the log. -/
def State.reset : State :=
  { core := Core.reset, bus := Bus.reset, pirom := { mem := piromImage, counter := 0 },
    scratch := { mem := Vector.replicate 128 0, counter := 0 }, sensor := Sensor.reset, thermal := Thermal.reset,
    platform := Platform.reset, answer := [], mem := [], special := none, inputs := [], free := 0 }

end Sys2Proof.Machine
end

