-- ==== Sys2Proof/Machine/Operands.lean ====
section
/-! DEFINITION. What an operation works on: the device a packet selects, the fields of a request, the bytes of a
transfer and their lanes, the bus image of a core access. -/

namespace Sys2Proof.Machine

/-! ### SMBus selection -/

/-- The level of a strap that is driven low, left floating or driven high. -/
def Strap3.isHigh : Strap3 → Bool
  | .high => true
  | _ => false

/-- The sensor's upper address pattern by SMA2 (R143). -/
def sensorUpper : Strap3 → BitVec 4
  | .low => 0b0011
  | .floating => 0b0101
  | .high => 0b1001

/-- The sensor's 7-bit address, a function of SMA2 and SMA1 (R143, R432). -/
def sensorAddress (sma2 : Strap3) (sma1 : Bool) : SmbAddr :=
  sensorUpper sma2 ++ BitVec.ofBool sma2.isHigh ++ BitVec.ofBool sma1 ++ BitVec.ofBool (sma2 == .floating)

/-- The SMA[1:0] straps as the two address bits of a memory (R142). -/
def smaBits (p : Platform) : BitVec 2 := BitVec.ofBool p.sma1 ++ BitVec.ofBool p.sma0

/-- Whether a memory packet selects this package: its SMA bits are the straps', and the devices have power (R65,
R384). -/
def selects (s : State) (sma : BitVec 2) : Bool := s.platform.smbusPower && sma == smaBits s.platform

/-- Whether a packet's address selects the sensor (R65, R432). -/
def sensorSelects (s : State) (t : SmbAddr) : Bool :=
  s.platform.smbusPower && t == sensorAddress s.platform.sma2 s.platform.sma1

/-- Whether an address byte names one of this package's three devices, or is the ARA's, always with R/W = 1, while the alert
latch is set: the packets whose form matters to it (R144, R384, R432, R447). -/
def addressesPackage (s : State) (b : Byte) : Bool :=
  (isMemoryAddress (byteAddress b) && selects s (addressSel (byteAddress b)).sma) || sensorSelects s (byteAddress b) ||
    (s.platform.smbusPower && s.sensor.alertLatch && b == addressByte araAddress 1)

end Sys2Proof.Machine

namespace Sys2Proof

/-! ### Fields of a request -/

/-- DPS# = EXF[0] (R167). -/
def ClockB.dps (b : ClockB) : Bool := b.exf.getLsbD 0
/-- DEN# = EXF[1] (R167, R523). -/
def ClockB.den (b : ClockB) : Bool := b.exf.getLsbD 1
/-- EXF[2]: CCL# of a Memory Write, OWN# of any other (R167). -/
def ClockB.exf2 (b : ClockB) : Bool := b.exf.getLsbD 2
/-- FCL# = EXF[3] (R167). -/
def ClockB.fcl (b : ClockB) : Bool := b.exf.getLsbD 3
/-- The requester is a symmetric agent: DID[9] = 0 (R168). -/
def Request.symmetric (r : Request) : Bool := !r.b.did.getLsbD 9
/-- The requester's agent ID DID[8:5] (R168). -/
def Request.agentId (r : Request) : BitVec 4 := r.b.did.extractLsb' 5 4
/-- The transaction ID DID[4:0] (R168). -/
def Request.tid (r : Request) : BitVec 5 := r.b.did.extractLsb' 0 5
/-- The identifier a Deferred Reply carries on Aa[25:16] (R160, R601). -/
def Request.replyDid (r : Request) : Did := r.addr.extractLsb' 13 10

/-- The request was issued by this processor: symmetric, with its arbitration ID (R168). -/
def Request.isOwn (r : Request) (arbId : BitVec 2) : Bool := r.symmetric && r.agentId == arbId.zeroExtend 4

/-- The identifier of an own transaction: DID[9] = 0, DID[8:5] the arbitration ID (R168, R622). -/
def ownDid (arbId : BitVec 2) (tid : BitVec 5) : Did := 0b0#1 ++ (arbId.zeroExtend 4 : BitVec 4) ++ tid

/-- The line a request names: A[49:7]. -/
def lineOf (a : AddrPins) : LineAddr := a.extractLsb' 4 43
/-- The address pins of a line: A[6:3] = 0. -/
def linePins (l : LineAddr) : AddrPins := l ++ 0#4
/-- The first byte address of a granule: `A[49:3] << 3` (R101). -/
def byteBase (a : AddrPins) : Nat := 8 * a.toNat

/-! ### The rows of Table A-10 -/

/-- A memory access: it carries ASZ and LEN (R102, R161). -/
def BusRow.isMemory : BusRow → Bool
  | .memReadInvalidate | .memRead | .memWrite | .memReadCurrent | .cacheLineReplacement => true
  | _ => false

/-- The requester drives the data of the transaction (R625). -/
def BusRow.isWrite : BusRow → Bool
  | .ioWrite | .memWrite => true
  | _ => false

/-- The responder drives data for the requester (R602, R606, R608, R609, R610). -/
def BusRow.isRead : BusRow → Bool
  | .interruptAcknowledge | .ioRead | .memReadInvalidate | .memRead | .memReadCurrent => true
  | _ => false

/-! ### Lengths, lanes and bytes -/

/-- The bytes of a transfer: 8 of the granule when partial, else 16 to 128 (R106). -/
def xferBytes (len : BitVec 3) : Nat := if len = 0 then 8 else 2 ^ (len.toNat + 3)

/-- The 128-bit words of a transfer (R106). -/
def xferWords (len : BitVec 3) : Nat := if len.toNat ≤ 1 then 1 else 2 ^ (len.toNat - 1)

/-- The clocks with DRDY# of a transfer: 1, 1, 1, 2, 4 (R625). -/
def xferClocks (len : BitVec 3) : Nat := (xferWords len + 1) / 2

/-- Byte `k` of a line's data. -/
def laneByte (d : LineData) (k : Nat) : Byte := d.extractLsb' (8 * k) 8

/-- The line data whose bytes are `bs`, the first the least significant. -/
def ofBytes : List Byte → LineData
  | [] => 0
  | b :: rest => b.zeroExtend 1024 ||| (ofBytes rest <<< 8)

/-- The lane in which a granule's first byte travels: 8 when A[3] = 1, else 0 (R105). -/
def laneBase (a : AddrPins) : Nat := if a.getLsbD 0 then 8 else 0

/-- The bytes a write carries, with their addresses: a partial one by BE[7:0]# and A[3]#, a longer one all of its
length from its address on (R101, R105, R106). -/
def storedCells (a : AddrPins) (len : BitVec 3) (be : BitVec 8) (d : LineData) : List Host.Cell :=
  if len = 0 then
    (List.range 8).filterMap fun i =>
      if be.getLsbD i then some (byteBase a + i, laneByte d (laneBase a + i)) else none
  else (List.range (xferBytes len)).map fun k => (byteBase a + k, laneByte d k)

/-- The bytes of a whole line, with their addresses: an implicit writeback (R119). -/
def lineCells (l : LineAddr) (d : LineData) : List Host.Cell :=
  (List.range 128).map fun k => (byteBase (linePins l) + k, laneByte d k)

/-- Word `j` of a line's data (R105). -/
def dataWord (d : LineData) (j : Nat) : DataWord := d.extractLsb' (128 * j) 128

/-- Word `j` of a line's data becomes `w`. -/
def putWord (d : LineData) (j : Nat) (w : DataWord) : LineData :=
  (d &&& ~~~((BitVec.allOnes 128).zeroExtend 1024 <<< (128 * j))) ||| (w.zeroExtend 1024 <<< (128 * j))

/-- The first `n` bytes in the other order. -/
def reverseBytes (d : LineData) (n : Nat) : LineData := ofBytes ((List.range n).reverse.map (laneByte d))

/-- How the core maps a value of `n` bytes onto consecutive byte addresses, and back (R104, R105). -/
def endianBytes (e : Endian) (n : Nat) (d : LineData) : LineData :=
  match e with
  | .little => d
  | .big => reverseBytes d n

/-- Among the byte positions that are enabled, the one as far from their end as `i` is from their start; a position that
is not enabled is its own. -/
def mirrorLane (be : BitVec 8) (i : Nat) : Nat :=
  let enabled := (List.range 8).filter be.getLsbD
  if be.getLsbD i then enabled.reverse.getD (enabled.idxOf i) i else i

/-- How the core maps the value of a partial access onto the bytes its byte enables name, and back (R104, R105). -/
def endianPartial (e : Endian) (be : BitVec 8) (d : LineData) : LineData :=
  match e with
  | .little => d
  | .big => ofBytes ((List.range 8).map fun i => laneByte d (mirrorLane be i))

/-! ### Bus images of the core -/

/-- The ATTR[2:0]# code of a memory type (R103); ATTR[3]# is reserved and driven 0. -/
def MemType.code : MemType → BitVec 4
  | .uncacheable => 0b0000
  | .writeCoalescing => 0b0100
  | .writeThrough => 0b0101
  | .writeProtect => 0b0110
  | .writeback => 0b0111

/-- The LEN[2:0]# code of a length (R106). -/
def XferLen.code : XferLen → BitVec 3
  | .partial8 => 0b000
  | .bytes16 => 0b001
  | .bytes32 => 0b010
  | .bytes64 => 0b011
  | .bytes128 => 0b100

/-- ASZ[1:0]# for an address (R102). -/
def aszOf (a : AddrPins) : BitVec 2 := if a.extractLsb' 33 14 = 0#14 then 0b01 else 0b10

/-- EXF[4:0]# from its parts, DPS# always asserted by this processor (R167, R527, R622). -/
def exfBits (fcl exf2 den : Bool) : BitVec 5 :=
  0b0#1 ++ BitVec.ofBool fcl ++ BitVec.ofBool exf2 ++ BitVec.ofBool den ++ 0b1#1

/-- A request of this processor: DSZ = 01 always; the identifier is filled in when it is issued (R107, R622). The pins of
clock b that mean nothing in it are driven 0: Ab[49:36] and Ab[26] in every request, Ab[31:27], xTPRDisable# and
xTPRValue#, in every request but an xTPR Update (R37, R160, R169; DESIGN CHOICE, log 23). EXF[2]# and DEN# of a request
other than that of a load, a store or a fetch are given by no rule: deasserted (R167; DESIGN CHOICE, logs 22 and 23). -/
def ownRequest (a : AddrPins) (attr : BitVec 4) (be : BitVec 8) (fcl exf2 den : Bool) : Request :=
  { addr := a, dsz := 0b01,
    b := { high := 0, attr, xtprDisable := 0, xtprValue := 0, ab26 := 0, did := 0, be, exf := exfBits fcl exf2 den } }

/-- The address pins of a byte address below 2^50. -/
def pinsOf (a : BitVec 64) : AddrPins := a.extractLsb' 3 47

/-- The byte enables of an access: its own when partial (R106); of a longer transfer they are not used, and all are driven
asserted (DESIGN CHOICE, log 23). -/
def Access.enables (a : Access) : BitVec 8 := if a.len = .partial8 then a.be else 0xFF

/-- The request of an access. -/
def Access.request (a : Access) : Request :=
  ownRequest (pinsOf a.addr) a.memType.code a.enables false a.exf2 a.deferrable

/-- The bus image of an access (R671): code reads with D/C# = 0, data reads with 1. -/
def Access.image (a : Access) : Instr :=
  match a.kind with
  | .load => .memRead a.request (aszOf (pinsOf a.addr)) 1 a.len.code
  | .fetch => .memRead a.request (aszOf (pinsOf a.addr)) 0 a.len.code
  | .store => .memWrite a.request (aszOf (pinsOf a.addr)) (BitVec.ofBool a.snooped) a.len.code
  | .ioRead => .ioRead { a.request with b := { a.request.b with be := a.be } } 0
  | .ioWrite => .ioWrite { a.request with b := { a.request.b with be := a.be } } 0

/-- The bytes of a value on the lanes of the bus, in the core's byte order: a partial transfer's on the lanes its byte
enables name, in the half of the bus that A[3]# selects (R104, R105). What the lanes that are not valid carry is not in the
source but for their check bits: bytes the core put there with the value, or 0 (R517; DESIGN CHOICE, log 16). -/
def laneData (e : Endian) (a : AddrPins) (len : BitVec 3) (be : BitVec 8) (value : LineData) : LineData :=
  if len = 0 then endianPartial e be value <<< (8 * laneBase a) else endianBytes e (xferBytes len) value

/-- The value whose bytes stand on the lanes of the bus: `laneData` read backwards (R104, R105). A byte that is not enabled is
what its lane carried (DESIGN CHOICE, log 15). -/
def laneValue (e : Endian) (a : AddrPins) (len : BitVec 3) (be : BitVec 8) (lanes : LineData) : LineData :=
  if len = 0 then
    endianPartial e be ((lanes >>> (8 * laneBase a)) &&& (BitVec.allOnes 64).zeroExtend 1024)
  else endianBytes e (xferBytes len) lanes

/-- The length of an access on the bus: I/O accesses are partial (R110). -/
def Access.lenCode (a : Access) : BitVec 3 :=
  match a.kind with
  | .ioRead | .ioWrite => 0
  | .load | .store | .fetch => a.len.code

/-- The lane data of an access (R104, R105). -/
def Access.wireData (a : Access) : LineData := laneData a.endian (pinsOf a.addr) a.lenCode a.be a.data

/-- The special request of a code (R603): its address is not defined, a free value; BE[7:0]# is the code. -/
def specialRequest (free : Nat) (code : BitVec 8) : Instr :=
  .special (ownRequest (Config.freePins free) 0 code false false false)

end Sys2Proof

namespace Sys2Proof.Machine

/-! ### Transactions -/

/-- Whether a transaction is snooped by the other caches: every memory access, a Memory Write and a Cache Line Replacement
only with WSNP# (R119, R165, R569). -/
def Txn.snooped (t : Txn) : Bool :=
  match t.row with
  | .memReadInvalidate | .memRead | .memReadCurrent => true
  | .memWrite | .cacheLineReplacement => t.req1
  | _ => false

/-- A Bus Invalidate Line transaction: a Memory Read & Invalidate that asks for no byte (R608, G8). -/
def Txn.isBil (t : Txn) : Bool := t.row == .memReadInvalidate && t.len == 0 && t.req.b.be == 0

/-- No data transfer belongs to the transaction by its request: it is neither a read nor a write. A Bus Invalidate Line is a
partial transfer of no byte, which takes its one data clock like any of 0 to 8 bytes (R106, R625). -/
def Txn.dataless (t : Txn) : Bool := !(t.row.isRead || t.row.isWrite)

/-- A cache that holds the line of the transaction unmodified keeps it: not at a Memory Read & Invalidate, a snooped
write or a request with FCL# (R608, R611, R623, R661, log 17). -/
def Txn.keepsLine (t : Txn) : Bool := !(t.row == .memReadInvalidate || t.row == .memWrite || t.req.b.fcl)

/-- Why an access was made. -/
def accessPurpose : AccessKind → Purpose
  | .load => .load
  | .fetch => .fetch
  | .store => .store
  | .ioRead => .ioRead
  | .ioWrite => .ioWrite

end Sys2Proof.Machine
end

