-- ==== Sys2Proof/Machine/Flags.lean ====
section
/-! DEFINITION. The computed bits: parity (R22, R172), the sensor's STATUS byte and alarm conditions (R74, R460 to
R464), the PIROM checksum (R158), the conversion period (R455), the response kind (R173, R624), the order of events
(R711). -/

namespace Sys2Proof.Machine

/-! ### Parity -/

/-- The exclusive or of all bits: `parity = XOR of the covered bits` in logical values (R172). -/
def xorBits {n : Nat} (x : BitVec n) : Bool := (List.range n).foldl (fun acc i => acc != x.getLsbD i) false

/-- AP[1:0]# of A[49:3]#: AP[1] covers A[49:27], AP[0] covers A[26:3] (R172). -/
def addressParity (a : AddrPins) : BitVec 2 :=
  BitVec.ofBool (xorBits (a.extractLsb' 24 23)) ++ BitVec.ofBool (xorBits (a.extractLsb' 0 24))

/-- RP#: covers ADS# and REQ[5:0]# (R172, R552). -/
def requestParity (ads : Bool) (req : BitVec 6) : Bool := ads != xorBits req

/-- RSP#: covers RS[2:0]# (R172, R554). -/
def responseParity (rs : BitVec 3) : Bool := xorBits rs

/-- IP[0]#: covers IDa[9:0]# and IDS# in the first clock, where IDS# = 1 (R172, R542). -/
def idParityA (ida : BitVec 10) : Bool := true != xorBits ida

/-- IP[1]#: covers IDb[9:2, 0]# and IDS# in the second clock (R172, R542). -/
def idParityB (ids : Bool) (idb : BitVec 10) : Bool := ids != xorBits (idb &&& 0x3FD)

/-- The request pins carry correct parity: RP# always, AP[1:0]# where the initiator drives it (R172, R720). -/
def requestParityOk (ads : Bool) (a : AddrPins) (req : BitVec 6) (ap : Option (BitVec 2)) (rp : Bool) : Bool :=
  rp == requestParity ads req && (match ap with
    | none => true
    | some x => x == addressParity a)

/-! ### The sensor -/

/-- `high_cond := TEMP ≥ THIGH`, signed (R462). -/
def highCond (s : Sensor) : Bool := decide (s.thigh.toInt ≤ s.temp.toInt)

/-- `low_cond := TEMP ≤ TLOW`, signed (R463, D32). -/
def lowCond (s : Sensor) : Bool := decide (s.temp.toInt ≤ s.tlow.toInt)

/-- `sat8`: an integer clamped to -128 .. 127 as a byte (R460). -/
def sat8 (t : Int) : Byte := BitVec.ofInt 8 (max (-128) (min 127 t))

/-- A reading in thousandths of a degree to the nearest degree, halves upwards (R460; the tie is log 14's). -/
def roundMilli (m : Int) : Int := (m + 500) / 1000

/-- STATUS: BUSY, RHIGH, RLOW, OPEN; the reserved bits 6, 5, 1 and 0 are those of a free byte (R74, U6). -/
def statusByte (s : Sensor) (free : Byte) : Byte :=
  BitVec.ofBool s.converting ++ free.extractLsb' 5 2 ++ BitVec.ofBool s.rhigh ++ BitVec.ofBool s.rlow ++
    BitVec.ofBool s.openFault ++ free.extractLsb' 0 2

/-- RUN/STOP = 1: standby (R77, R80). -/
def standby (s : Sensor) : Bool := s.config.getLsbD 6

/-- The nominal period of a conversion rate in microseconds: 16 s halved CONVRATE times (R455). -/
def nominalPeriod (rate : Byte) : Nat := 16000000 / 2 ^ rate.toNat

/-- The actual period: the nominal one over the actual rate (R455). -/
def conversionPeriod (s : Sensor) : Nat := nominalPeriod s.convrate * 1000 / s.rateMill

/-- The actual rate lies within 25 % of the nominal one (R455). -/
def rateInTolerance (mill : Nat) : Bool := decide (750 ≤ mill) && decide (mill ≤ 1250)

/-! ### PIROM checksums -/

/-- The sum of the bytes at offsets `first .. last`, modulo 256 (R158). -/
def sectionSum (mem : Vector Byte 128) (first last : Nat) : Byte :=
  ((List.range (last + 1 - first)).map fun i => mem.toList.getD (first + i) 0).foldl (· + ·) 0

/-! ### Responses and events -/

/-- The response kind behind a number. -/
def respKindOfNat : Nat → RespKind
  | 0 => .normal
  | 1 => .retry
  | 2 => .deferred
  | 3 => .implicitWriteback
  | _ => .failure

/-- The kind of a non-idle response code; `RS_CODE(idle) = 000` (R173, R624). -/
def responseKind (rs : BitVec 3) : Option RespKind :=
  if rs = 0 then none else some (respKindOfNat (Config.rsKind rs))

/-- The rank of an event, highest first: machine check, PMI#, INIT#, NMI, CMCI, then the rest (R711, D24). -/
def Event.rank : Event → Nat
  | .mca => 5
  | .pmi => 4
  | .init => 3
  | .nmi => 2
  | .cmci => 1
  | .ext | .local0 | .local1 => 0

/-- The number by which `HANDLER_ENTRY` knows an event. -/
def Event.number : Event → Nat
  | .mca => 0
  | .pmi => 1
  | .init => 2
  | .nmi => 3
  | .cmci => 4
  | .ext => 5
  | .local0 => 6
  | .local1 => 7

/-- The event behind a number. -/
def Event.ofNumber : Nat → Event
  | 0 => .mca
  | 1 => .pmi
  | 2 => .init
  | 3 => .nmi
  | 4 => .cmci
  | 5 => .ext
  | 6 => .local0
  | _ => .local1

/-- A LINT0 mode behind a byte. -/
def Lint0Mode.ofByte (b : Byte) : Lint0Mode :=
  if b = 0 then .disabled else if b = 1 then .int else .other

/-- A LINT1 mode behind a byte. -/
def Lint1Mode.ofByte (b : Byte) : Lint1Mode :=
  if b = 0 then .disabled else if b = 1 then .nmi else .other

/-- Events that `int_masked` holds back: INT by the source's word, the other events of its class by this model's
choice (R701, R703; log 19). -/
def Event.maskable : Event → Bool
  | .ext | .local0 | .local1 => true
  | _ => false

end Sys2Proof.Machine
end

