-- ==== Sys2Proof/Machine/Ops.lean ====
section
/-! DEFINITION. The named operations over memory, the SMBus devices, the core and the bus agent's queues. Taking an
event (R731) and returning from one (R733) are here, once. -/

namespace Sys2Proof.Machine

/-! ### Physical memory -/

/-- What an address that is not listed reads as: 00h (DESIGN CHOICE, unsafe: log 4). -/
def Memory.unlisted : Byte := 0

/-- One byte of memory. -/
def Memory.read : Memory → Nat → Byte
  | [], _ => Memory.unlisted
  | (k, v) :: rest, a => if k = a then v else Memory.read rest a

/-- One byte written. The canonical form is kept: rising addresses, no entry that reads as an unlisted one. -/
def Memory.write : Memory → Nat → Byte → Memory
  | [], a, b => if b = Memory.unlisted then [] else [(a, b)]
  | (k, v) :: rest, a, b =>
    if a < k then (if b = Memory.unlisted then (k, v) :: rest else (a, b) :: (k, v) :: rest)
    else if a = k then (if b = Memory.unlisted then rest else (a, b) :: rest)
    else (k, v) :: Memory.write rest a b

/-- Several bytes written, in order. -/
def Memory.writeAll (m : Memory) : List Host.Cell → Memory
  | [] => m
  | (a, b) :: rest => Memory.writeAll (Memory.write m a b) rest

/-- `n` bytes from an address on, the first the least significant. -/
def Memory.readBytes (m : Memory) (a n : Nat) : LineData := ofBytes ((List.range n).map fun k => Memory.read m (a + k))

/-- Addresses strictly rising from `low` on, no listed byte that reads as an unlisted one. -/
def Memory.wfFrom (low : Nat) : Memory → Bool
  | [] => true
  | (k, v) :: rest => decide (low ≤ k) && v != Memory.unlisted && Memory.wfFrom (k + 1) rest

/-- The canonical form of memory. -/
def Memory.wf (m : Memory) : Bool := Memory.wfFrom 0 m

/-- The data a responding memory drives for a read: the 16-byte half-line piece that holds the granule when partial,
else the whole transfer (R105, R106). -/
def Memory.transfer (m : Memory) (a : AddrPins) (len : BitVec 3) : LineData :=
  if len = 0 then Memory.readBytes m (byteBase a - 8 * (a.toNat % 2)) 16
  else Memory.readBytes m (byteBase a) (xferBytes len)

/-! ### Free values -/

/-- `n` free values have been drawn. -/
def State.drew (s : State) (n : Nat) : State := { s with free := s.free + n }

/-! ### The memories of the SMBus -/

/-- `next_read(a) = (a + 1) mod 128` (R412). -/
def nextRead (a : BitVec 7) : BitVec 7 := a + 1

/-- `next_write(a) = (a and 78h) or ((a + 1) and 07h)` (R412). -/
def nextWrite (a : BitVec 7) : BitVec 7 := (a &&& 0x78) ||| ((a + 1) &&& 0x07)

/-- The offset a data address byte names: its bit 7 is a don't care (R412). -/
def dataOffset (da : Byte) : BitVec 7 := da.extractLsb' 0 7

/-- The byte at an offset. -/
def Eeprom.byteAt (e : Eeprom) (a : BitVec 7) : Byte := e.mem[a.toNat]

/-- A data address byte has been received (R412). -/
def Eeprom.load (e : Eeprom) (da : Byte) : Eeprom := { e with counter := dataOffset da }

/-- One byte has been sent (R414). -/
def Eeprom.advance (e : Eeprom) : Eeprom := { e with counter := nextRead e.counter }

/-- One byte has been received and stored (R418). -/
def Eeprom.store (e : Eeprom) (d : Byte) : Eeprom :=
  { mem := e.mem.set e.counter.toNat d, counter := nextWrite e.counter }

/-- The bytes a read of `n` bytes returns, and the device after it (R416). -/
def Eeprom.readN : Nat → Eeprom → List DevItem × Eeprom
  | 0, e => ([], e)
  | n + 1, e =>
    let r := Eeprom.readN n e.advance
    (.data (e.byteAt e.counter) :: r.1, r.2)

/-- The device after the data bytes of a page write (R419). -/
def Eeprom.storeAll : List Byte → Eeprom → Eeprom
  | [], e => e
  | d :: rest, e => Eeprom.storeAll rest (e.store d)

/-- One of the two memories of the package. -/
def State.eeprom (s : State) (isPirom : Bool) : Eeprom := if isPirom then s.pirom else s.scratch

/-- One of the two memories of the package becomes `e`. -/
def State.setEeprom (s : State) (isPirom : Bool) (e : Eeprom) : State :=
  if isPirom then { s with pirom := e } else { s with scratch := e }

/-- The devices of the package answered `items`. -/
def State.answered (s : State) (items : List DevItem) : State := { s with answer := items }

/-- Nothing of the package answers: the host sees a negative acknowledge (R384). -/
def State.unanswered (s : State) : State := s.answered [.nack]

/-- What an attempt to write a protected memory leaves: the data address is loaded; when the data bytes are
acknowledged the counter is unspecified, a free value (R420, R421, U24). -/
def Eeprom.protectedWrite (e : Eeprom) (da : Byte) (acked : Bool) (free : BitVec 7) : Eeprom :=
  { e with counter := if acked then free else dataOffset da }

/-- The answers to `n` data bytes of an attempt to write a protected memory (R420, R421). -/
def protectedAnswers (n : Nat) (acked : Bool) : List DevItem :=
  .ack :: .ack :: List.replicate n (if acked then .ack else .nack)

/-! ### The sensor -/

/-- A read byte packet has carried command `c` (R435). -/
def Sensor.commanded (s : Sensor) (c : Byte) : Sensor := { s with cmdPointer := c, cmdValid := true }

/-- A write byte or send byte packet has carried command `c` (R442, R448). -/
def Sensor.writeCommanded (s : Sensor) (c : Byte) : Sensor := { s with cmdPointer := c, cmdValid := false }

/-- The side effect of a successful read of STATUS: an alarm bit is cleared unless its condition persists (R75,
R437). -/
def Sensor.statusRead (s : Sensor) : Sensor :=
  { s with rhigh := s.rhigh && highCond s, rlow := s.rlow && lowCond s, openFault := s.openFault && s.openCond }

/-- `value(c)` of R435: the byte a read command returns (R436 to R441). -/
def Sensor.value (s : Sensor) (c free : Byte) : Byte :=
  if c = 0x01 then s.temp
  else if c = 0x02 then statusByte s free
  else if c = 0x03 then s.config
  else if c = 0x04 then s.convrate
  else if c = 0x07 then s.thigh
  else if c = 0x08 then s.tlow
  else free

/-- The side effect of a read command: only that of RS (R437). -/
def Sensor.afterRead (s : Sensor) (c : Byte) : Sensor := if c = 0x02 then s.statusRead else s

/-- `start_conversion` (R457). -/
def Sensor.startConversion (s : Sensor) : Sensor := { s with converting := true, convLeft := Config.tConv }

/-- `CONFIG <- d` (R443): RUN/STOP = 1 abandons a conversion and stops the timer; RUN/STOP = 0 out of standby starts
the timer with a value in [0, P] that the source does not give; the value already held changes nothing (D34). -/
def Sensor.writeConfig (s : Sensor) (d : Byte) (free : Nat) : Sensor :=
  if d = s.config then s
  else if d.getLsbD 6 then { s with config := d, converting := false, convLeft := 0, rateTimer := 0 }
  else if standby s then { s with config := d, rateTimer := free % (conversionPeriod s + 1) }
  else { s with config := d }

/-- `one_shot()` (R448). -/
def Sensor.oneShot (s : Sensor) : Sensor :=
  if s.converting then s
  else if standby s then s.startConversion
  else { s.startConversion with rateTimer := conversionPeriod s }

/-- `finish_conversion`: the result, the open-fault check, the alarms, the alert latch (R460, R461, R464). A reading
with an open diode is a free value (U23); so is what the device finds of its own temperature (R72), `internal`. -/
def Sensor.finishConversion (s : Sensor) (milliC : Int) (free internal : Byte) : Sensor :=
  let s1 := { s with temp := if s.openCond then free else sat8 (roundMilli milliC), tempInternal := internal,
                     converting := false, convLeft := 0 }
  { s1 with openFault := s1.openFault || s1.openCond, rhigh := s1.rhigh || highCond s1, rlow := s1.rlow || lowCond s1,
            alertLatch := s1.alertLatch || highCond s1 || lowCond s1 }

/-- Everything of the sensor that an undefined receive byte leaves unconstrained (R449, U5, D10). -/
def Sensor.havoc (s : Sensor) (free : Nat) : Sensor :=
  { s with
    temp := Config.freeByte (free + 1), tempInternal := Config.freeByte (free + 2),
    rhigh := Config.freeBool (free + 3), rlow := Config.freeBool (free + 4), openFault := Config.freeBool (free + 5),
    config := Config.freeByte (free + 6), convrate := Config.freeByte (free + 7),
    rsv05 := Config.freeByte (free + 8), rsv06 := Config.freeByte (free + 9), thigh := Config.freeByte (free + 10),
    tlow := Config.freeByte (free + 11), cmdPointer := Config.freeByte (free + 12),
    cmdValid := Config.freeBool (free + 13), alertLatch := Config.freeBool (free + 14),
    converting := Config.freeBool (free + 15), convLeft := Config.freeTime (free + 16),
    rateTimer := Config.freeTime (free + 17) }

/-! ### The core: events and their return -/

/-- `take(event, vector?)` (R731): the pc and the interruption state are saved on a stack, the pc goes to the handler,
INT is masked; the entry into an NMI service routine puts NMI in service (R39, R705). -/
def Core.take (c : Core) (e : Event) (vector : Byte) : Core :=
  { c with saved := { pc := c.pc, intMasked := c.intMasked, event := e, vector } :: c.saved,
           pc := Config.handlerEntry e.number vector, intMasked := true, nmiInService := c.nmiInService || e == .nmi }

/-- The return of R733: the newest saved record is restored. With nothing saved nothing changes, of which the source says
nothing (DESIGN CHOICE, log 15). -/
def Core.ret (c : Core) : Core :=
  match c.saved with
  | [] => c
  | r :: rest => { c with pc := r.pc, intMasked := r.intMasked, saved := rest }

/-- A core instruction is completed: the pc moves on, how is not in the source (R33). -/
def Core.advance (c : Core) (free : Nat) : Core := { c with pc := Config.nextPc free c.pc }

/-- INIT#, PMI#, NMI or an unmasked INT wakes a halted core (R665). -/
def Core.wakeHalted (c : Core) : Core := if c.run = .halted then { c with run := .running } else c

/-- INIT# wakes a halted or shut-down core (R666, R706). -/
def Core.wakeInit (c : Core) : Core :=
  if c.run = .halted ∨ c.run = .shutdown then { c with run := .running } else c

/-- NMI is asserted: within its service routine it stays pending; otherwise it is recognised, and its routine is entered at
the next boundary (R705, R712). A further edge before that entry is the same assertion (DEDUCED, log 28). A core that has
halted inside an NMI service routine is not woken by an edge that only stays pending: R665 names NMI among what wakes it, R712
has the edge recognised after EOI only, and the source does not join the two (DESIGN CHOICE, log 28). -/
def Core.nmiEdge (c : Core) : Core :=
  if c.nmiInService then { c with nmiPending := true }
  else { c.wakeHalted with pending := { c.pending with nmi := true } }

/-- The processor has power: its power pod is not off (R87, R812). -/
def State.powered (s : State) : Bool := s.platform.powerState != .off

/-- Whether the core can execute: running, not waiting, out of reset, with power and PWRGOOD (R88, R660, R771, R812). -/
def State.coreReady (s : State) : Bool :=
  s.core.run == .running && s.core.wait == .none && !s.bus.inReset && s.platform.pwrgood && s.powered

/-! ### Caches and translation buffers -/

/-- The valid line of that number (R41). -/
def findLine : List CacheLine → LineAddr → Option CacheLine
  | [], _ => none
  | c :: rest, l => if c.line = l then some c else findLine rest l

/-- The line leaves the caches. -/
def dropLine (cs : List CacheLine) (l : LineAddr) : List CacheLine := cs.filter fun c => c.line != l

/-- The line is held unmodified from now on. -/
def cleanLine (cs : List CacheLine) (l : LineAddr) : List CacheLine :=
  cs.map fun c => if c.line = l then { c with modified := false } else c

/-- The line enters the caches in place of what they hold of it. -/
def setLine (cs : List CacheLine) (c : CacheLine) : List CacheLine := c :: dropLine cs c.line

/-- Two ranges of addresses have an address in common (R664): the ranges are closed intervals of 64-bit virtual addresses,
compared as numbers, with no region (R42, R664; DESIGN CHOICE, log 42). -/
def rangesOverlap (a b : PurgeRange) : Bool :=
  decide (a.first.toNat ≤ b.last.toNat) && decide (b.first.toNat ≤ a.last.toNat)

/-- `tlb` without entries overlapping the range (R664); an entry is a range of the same shape (DESIGN CHOICE, log 42). -/
def purgeTlb (tlb : List PurgeRange) (r : PurgeRange) : List PurgeRange := tlb.filter fun x => !rangesOverlap x r

/-! ### The bus agent's queues -/

/-- The core hands requests to its bus interface (R660 b). -/
def Bus.enqueue (b : Bus) (qs : List OutReq) : Bus := { b with outQ := b.outQ ++ qs }

/-- The state after the core has handed over requests. -/
def State.enqueue (s : State) (qs : List OutReq) : State := { s with bus := s.bus.enqueue qs }

/-- A request handed over for `purpose`. -/
def outReq (i : Instr) (purpose : Purpose) : OutReq :=
  { instr := i, purpose, endian := .little, data := 0, barrier := false }

/-- The transaction of a request, as its request phase leaves it (R600). -/
def newTxn (row : BusRow) (r : Request) (req1 : Bool) (len : BitVec 3) (src : Option OutReq) : Txn :=
  { row, req := r, req1, len, src, special := none, snoop := none, supplies := false, response := none,
    trdy := false, lead := false, got := 0, buf := match src with
      | some q => q.data
      | none => 0,
    wbuf := 0, reply := false, bilLine := false }

/-- The own request this request phase carries out, if it is this processor's (R622). -/
def Bus.sourceOf (b : Bus) (r : Request) : Option OutReq := if r.isOwn b.arbId then b.issuing.head? else none

/-- A request phase is completed: the transaction enters the in-order queue (R622). -/
def Bus.append (b : Bus) (row : BusRow) (r : Request) (req1 : Bool) (len : BitVec 3) : Bus :=
  { b with ioq := b.ioq ++ [newTxn row r req1 len (b.sourceOf r)],
           issuing := if r.isOwn b.arbId then b.issuing.drop 1 else b.issuing }

/-- The state after a request phase. -/
def State.append (s : State) (row : BusRow) (r : Request) (req1 : Bool) (len : BitVec 3) : State :=
  { s with bus := s.bus.append row r req1 len }

/-- The deferred transaction of an identifier (R51, R601). -/
def findDeferred : List (Did × Txn) → Did → Option Txn
  | [], _ => none
  | (d, t) :: rest, x => if d = x then some t else findDeferred rest x

/-- `deferred[d] <- none` (R601): the entry `findDeferred` finds, and no other. -/
def dropDeferred : List (Did × Txn) → Did → List (Did × Txn)
  | [], _ => []
  | (d, t) :: rest, x => if d = x then rest else (d, t) :: dropDeferred rest x

/-- The rule a request breaks, as the refusal that names it. -/
def malformedRefusal : Malformed → Refusal
  | .asz => .aszReserved
  | .attr => .attrReserved
  | .dsz => .dszReserved
  | .len => .lenReserved
  | .alignment => .misaligned
  | .configReserved => .reservedValue
  | .rateReserved => .reservedValue
  | .beCode => .reservedSpecial
  | .sensorAddress => .malformedPacket
  | .noData => .malformedPacket
  | .shortPage => .malformedPacket
  | .noAcknowledge => .malformedPacket
  | .definedCommand => .reservedCommand

/-- The next state, unless a rule is broken. -/
def unlessMalformed (m : Option Malformed) (s : State) : Host.Outcome State Fault Refusal :=
  match m with
  | none => .next s
  | some x => .refused (malformedRefusal x)

/-- The kind of the newest transaction's special code is now known (R164, R603). -/
def markNewest : List Txn → SpecialKind → List Txn
  | [], _ => []
  | [t], k => [{ t with special := some k }]
  | t :: rest, k => t :: markNewest rest k

/-- A special transaction's code has been read: the newest special in the queue has it. -/
def State.markSpecial (s : State) (k : SpecialKind) : State :=
  { s with bus := { s.bus with ioq := markNewest s.bus.ioq k } }

end Sys2Proof.Machine
end

