-- ==== Sys2Proof/Machine/CoreInstr.lean ====
section
/-! DEFINITION. The core instructions the source names (R661 to R671), as the model of an opaque core has them: what
each does to the state the source gives the core, and the bus requests it hands over. -/

namespace Sys2Proof.Machine

/-- The instruction is completed: the pc moves on by a rule that is not in the source; one free value is drawn. -/
def State.stepped (s : State) : State := { s with core := s.core.advance s.free, free := s.free + 1 }

/-- The state with another core record. -/
def State.setCore (s : State) (c : Core) : State := { s with core := c }

/-- A line written back: a Memory Write of 128 bytes, snooped, of the Writeback type (R611, R669). -/
def writebackInstr (l : LineAddr) (fcl : Bool) : Instr :=
  .memWrite (ownRequest (linePins l) MemType.writeback.code 0xFF fcl false false) (aszOf (linePins l)) 1 0b100

/-- The Memory Read & Invalidate of length zero that a flush of a line not held modified becomes (R608, R661). It names the
whole line: its address is the line's, A[6:3]# are 0, and no byte is enabled (DESIGN CHOICE, log 22). -/
def flushInvalidateInstr (l : LineAddr) : Instr :=
  .memReadInvalidate (ownRequest (linePins l) MemType.writeback.code 0x00 true false false) (aszOf (linePins l)) 0b000

/-- The request of a flush: with FCL#, a Memory Write where the line is held modified, else a Memory Read & Invalidate
of length zero (R661, G9). -/
def flushRequest (cache : List CacheLine) (l : LineAddr) : OutReq :=
  match findLine cache l with
  | some c =>
    if c.modified then { outReq (writebackInstr l true) .flush with data := c.data }
    else outReq (flushInvalidateInstr l) .flush
  | none => outReq (flushInvalidateInstr l) .flush

/-- The write-backs of all modified lines (R669). -/
def writebackRequests (cache : List CacheLine) : List OutReq :=
  (cache.filter (·.modified)).map fun c => { outReq (writebackInstr c.line false) .writeback with data := c.data }

/-- The request of a special transaction (R603). -/
def specialOut (free : Nat) (code : BitVec 8) : OutReq := outReq (specialRequest free code) .special

/-- The xTPR Update: both values in clock b (R620, R670). -/
def xtprOut (free : Nat) (v : BitVec 4) (d : Bool) : OutReq :=
  let r := ownRequest (Config.freePins free) 0 0x08 false false false
  outReq (.special { r with b := { r.b with xtprValue := v, xtprDisable := BitVec.ofBool d } }) .special

/-- The Purge TC request of a range (R605, R664). Neither the memory type on ATTR nor BE[7:0]# of a Purge TC is in the source
(R103, R170, R507): Uncacheable, and 00h (DESIGN CHOICE, log 23). -/
def purgeOut (range : PurgeRange) : OutReq :=
  outReq (.purgeTc (ownRequest (Config.purgePins range.first range.last) 0 0 false false false)) .purge

/-- What becomes of a request to write a line back, handed over and not yet issued, once another agent has been supplied
with the line: a flush is still to reach every other cache, so it goes on as that of a line not held modified (R661); a
plain write-back has nothing left to do (DESIGN CHOICE, log 17). -/
def OutReq.afterSupply (q : OutReq) (l : LineAddr) : Option OutReq :=
  match q.purpose with
  | .flush => some (outReq (flushInvalidateInstr l) .flush)
  | _ => none

/-- CPUID[3] as the four bytes archrev, family, model, revision, from the most significant down (R36, R662). -/
def cpuidValue (p : Platform) : CpuidReg → BitVec 64
  | .id3 => 0#32 ++ p.cpuid3.archrev ++ p.cpuid3.family ++ p.cpuid3.model ++ p.cpuid3.revision
  | .ia32Features => 0#32 ++ p.ia32Features
  | .ipfFeatures => p.ipfFeatures

/-- The end of an NMI service routine; a pending NMI is recognised (R663, R712). Outside such a routine nothing happens
(DEDUCED, log 28). -/
def Core.eoi (c : Core) : Core :=
  if c.nmiInService then
    { c with nmiInService := false, nmiPending := false,
             pending := { c.pending with nmi := c.pending.nmi || c.nmiPending } }
  else c

/-- FC (R661): the line leaves the caches, written to memory if modified; every request it causes carries FCL#. -/
def execFc (line : LineAddr) (s : State) : Host.Outcome State Fault Refusal :=
  .next (((s.enqueue [flushRequest s.core.cache line]).setCore
    { s.core with cache := dropLine s.core.cache line }).stepped)

/-- CPUID (R662): a read-only function of the unit. -/
def execCpuid (reg : CpuidReg) (s : State) : Host.Outcome State Fault Refusal :=
  .next ((s.setCore { s.core with cpuidOut := cpuidValue s.platform reg }).stepped)

/-- EOI (R663). -/
def execEoi (s : State) : Host.Outcome State Fault Refusal := .next ((s.setCore s.core.eoi).stepped)

/-- TLB_PURGE (R664): the own entries go at once; the core waits for the transaction and for TND#. What its operands are is
not in the source: a closed interval of virtual addresses (DESIGN CHOICE, log 42). -/
def execTlbPurge (range : PurgeRange) (s : State) : Host.Outcome State Fault Refusal :=
  .next (((s.enqueue [purgeOut range]).setCore
    { s.core with tlb := purgeTlb s.core.tlb range, wait := .purgeBus }).stepped)

/-- HALT (R665): the Halt special transaction, and the core stops executing. An INIT#, a PMI# or an NMI recognised before and
not yet taken does not keep it from halting, nor wake it: of one that is pending already the source says nothing, and only a
further edge wakes it (DESIGN CHOICE, log 28). -/
def execHalt (s : State) : Host.Outcome State Fault Refusal :=
  .next (((s.enqueue [specialOut (s.free + 1) 0x03]).setCore { s.core with run := .halted }).stepped.drew 1)

/-- SHUTDOWN (R666): the Shutdown special transaction, and the core stops executing, an INIT# that is pending already
notwithstanding (DESIGN CHOICE, log 28). -/
def execShutdown (s : State) : Host.Outcome State Fault Refusal :=
  .next (((s.enqueue [specialOut (s.free + 1) 0x01]).setCore { s.core with run := .shutdown }).stepped.drew 1)

/-- STOPGRANT_ACK (R667): the model never issues the transaction; the instruction has no other effect. -/
def execStopgrantAck (s : State) : Host.Outcome State Fault Refusal := .next s.stepped

/-- INVD (R668): every line becomes invalid, modified data is discarded; the Flush special transaction. -/
def execInvd (s : State) : Host.Outcome State Fault Refusal :=
  .next (((s.enqueue [specialOut (s.free + 1) 0x02]).setCore { s.core with cache := [] }).stepped.drew 1)

/-- WBINVD (R669): every modified line is written back, all lines become invalid, the Sync special transaction is
issued after the last write has completed. -/
def execWbinvd (s : State) : Host.Outcome State Fault Refusal :=
  .next (((s.enqueue (writebackRequests s.core.cache ++ [{ specialOut (s.free + 1) 0x04 with barrier := true }])).setCore
    { s.core with cache := [] }).stepped.drew 1)

/-- XTPR_UPDATE (R670): the values change and are broadcast. R670 speaks of software changing them: whether a write of the
values already held is announced is not in the source; it is (DESIGN CHOICE, log 41). -/
def execXtprUpdate (value : BitVec 4) (disable : Bool) (s : State) : Host.Outcome State Fault Refusal :=
  .next (((s.enqueue [xtprOut (s.free + 1) value disable]).setCore
    { s.core with xtprValue := value, xtprDisable := disable }).stepped.drew 1)

/-- The request of a load, a store, a fetch or an I/O access (R671). -/
def accessOut (a : Access) : OutReq :=
  { outReq a.image (accessPurpose a.kind) with endian := a.endian, data := a.wireData }

/-- `addr mod length = 0` for 16 bytes and more (R108); a partial access names its bytes by BE[7:0]# (R106). -/
def accessAligned (a : Access) : Bool :=
  a.lenCode == 0 || a.addr.toNat % xferBytes a.lenCode == 0

/-- LOAD_STORE_FETCH (R671): the access's bus image is handed to the bus interface. An address no pin carries faults, a
longer access that is not naturally aligned is refused: what the core does with either is not in the source (R101, R108,
R700; DESIGN CHOICE, log 36). -/
def execLoadStoreFetch (a : Access) (s : State) : Host.Outcome State Fault Refusal :=
  if a.addr.toNat < 2 ^ 50 then
    if accessAligned a then .next ((s.enqueue [accessOut a]).stepped)
    else .refused .misaligned
  else .fault .physicalAddress

end Sys2Proof.Machine
end

