-- ==== Sys2Proof/Machine/Bus.lean ====
section
/-! DEFINITION. One bus clock (R492): what this processor samples, the asynchronous pins (R572), errors (R709, R710,
R720), arbitration (R632 to R637), the snoop, response, data and deferred phases (R623 to R626), and the issue of its
own requests (R622). The request phase that ends in this clock is run by Machine/Agents.lean after all of these. -/

namespace Sys2Proof.Machine

/-! ### What this processor drives by the state it is in -/

/-- The processor takes part in the bus: with power (R812) and PWRGOOD (R771), not in reset (R770), not tripped (R365), not
tristated (R781). -/
def State.onBus (s : State) : Bool :=
  s.powered && s.platform.pwrgood && !s.bus.inReset && s.thermal.mode != .tripped && !s.bus.poc.opts.outputTristate

/-- BNR#: this processor's in-order queue is full (R639). -/
def bnrOut (b : Bus) : Bool := decide (Config.ioqDepth ≤ b.ioq.length)

/-- TND#: a purge is still being carried out (R42, R664). -/
def tndOut (b : Bus) : Bool := !b.tlbPurging.isEmpty

/-- THRMALERT# (R470). While the 3.3 V supply is off the source says nothing of it: it stands as the latch was left
(DESIGN CHOICE, log 29). -/
def thrmalertOut (s : State) : Bool := s.sensor.alertLatch

/-- THRMTRIP# (R86): not driven by a processor whose outputs are tristated (R781). Of the pin of a processor without power
the source says nothing, for R86 has `thrmtrip_out` stand until RESET# and R812 names no pin: it is deasserted, and asserted
again with the power where no RESET# came between (R563, R812; DESIGN CHOICE, log 18). -/
def thrmtripOut (s : State) : Bool := s.thermal.thrmtrip && s.powered && !s.bus.poc.opts.outputTristate

/-- CPUPRES#: a static ground (R516). -/
def cpupresOut : Bool := true

/-- DBSY_C1#, DBSY_C2#: what is driven on DBSY# (R520, R521). -/
def dbsyCopy (b : Bus) : Bool := b.out.dbsy
/-- DRDY_C1#, DRDY_C2# (R529, R530). -/
def drdyCopy (b : Bus) : Bool := b.out.drdy
/-- SBSY_C1#, SBSY_C2# (R556, R557). -/
def sbsyCopy (b : Bus) : Bool := b.out.sbsy

/-- DEP[15:0]# of what is driven on D[127:0]#, first and second word, by the driver of the data; deasserted in any other
clock (R112, R490, R524). -/
def depOut (b : Bus) : BitVec 16 × BitVec 16 :=
  if b.out.drdy then (Config.ecc b.out.d0, Config.ecc b.out.d1) else (0, 0)

/-- LOCK# is never asserted (R545); BPM[5:0]# are driven deasserted (R750). -/
def lockOut : Bool := false
/-- BPM[5:0]# (R511, R750). -/
def bpmOut : BitVec 6 := 0

/-- The write-back of a line that is handed over and not yet issued, with its data. -/
def pendingWriteback : List OutReq → LineAddr → Option LineData
  | [], _ => none
  | q :: rest, l =>
    if (q.purpose = .flush ∨ q.purpose = .writeback) ∧
        (match q.instr with
          | .memWrite r _ _ _ => lineOf r.addr == l
          | _ => false) = true then some q.data
    else pendingWriteback rest l

/-- What a snoop finds of a line: in the caches, or on its way out of them. -/
def holdsLine (s : State) (l : LineAddr) : Option CacheLine :=
  match findLine s.core.cache l with
  | some c => some c
  | none => (pendingWriteback s.bus.outQ l).map fun d => { line := l, modified := true, data := d }

/-- The oldest transaction whose snoop result is outstanding: snoop phases occur in queue order (R600). -/
def snoopHead (b : Bus) : Option Txn := b.ioq.find? (·.snoop.isNone)

/-- The transaction being snooped and what this processor holds of its line; its own transactions it does not snoop
(R119). -/
def ownSnoop (s : State) : Option (Txn × CacheLine) :=
  match snoopHead s.bus with
  | some t =>
    if t.snooped && !t.req.isOwn s.bus.arbId then (holdsLine s (lineOf t.req.addr)).map fun c => (t, c) else none
  | none => none

/-- HIT#: the line is held unmodified and this processor keeps it (R174, R623). -/
def hitOut (s : State) : Bool :=
  match ownSnoop s with
  | some (t, c) => !c.modified && t.keepsLine
  | none => false

/-- The line this processor holds modified and will supply by implicit writeback (R119, R623). -/
def suppliedLine (s : State) : Option LineData :=
  match ownSnoop s with
  | some (_, c) => if c.modified then some c.data else none
  | none => none

/-- HITM#: the line is held modified (R174, R623). -/
def hitmOut (s : State) : Bool := (suppliedLine s).isSome

/-- This processor asserts HIT# and HITM# together: it requires a snoop stall (R119, R536); when it does is the
environment's choice. -/
def stallOut (s : State) (p : Pins) : Bool := p.snoopStall && (snoopHead s.bus).isSome

/-- The pins BR[3:1]# that another agent is connected to: BR[1]# with two processors (Table A-5); of three or four, those
of the agents there are (Table A-4, R629); one connected to no agent is never sampled asserted (R630). That three agents
are numbered 0 to 2 is DEDUCED, log 39. -/
def connectedPins (nAgents : Nat) (arbId : BitVec 2) : BitVec 3 :=
  if nAgents ≤ 1 then 0b000
  else if nAgents = 2 then 0b001
  else BitVec.ofBool (decide ((arbId + 3).toNat < nAgents)) ++ BitVec.ofBool (decide ((arbId + 2).toNat < nAgents)) ++
    BitVec.ofBool (decide ((arbId + 1).toNat < nAgents))

/-- What is sampled in a clock: what the others drive with what this processor drives, wired-OR signals as the OR
(R491), the request pins from the one that drives them. -/
def merged (s : State) (p : Pins) : Pins :=
  { p with
    ads := p.ads || s.bus.out.ads,
    a := if s.bus.out.drivesReq then s.bus.out.a else p.a,
    req := if s.bus.out.drivesReq then s.bus.out.req else p.req,
    ap := if s.bus.out.drivesReq then some s.bus.out.ap else p.ap,
    rp := if s.bus.out.drivesReq then s.bus.out.rp else p.rp,
    br := p.br &&& connectedPins s.platform.nAgents s.bus.arbId, bnr := p.bnr || bnrOut s.bus,
    hit := p.hit || hitOut s || stallOut s p, hitm := p.hitm || hitmOut s || stallOut s p,
    berr := p.berr || s.bus.out.berr, binit := p.binit || s.bus.out.binit, tnd := p.tnd || tndOut s.bus }

/-! ### Errors -/

/-- Another agent drives the request pins to other values than this processor, in a clock in which this one drives them; a
signal group that is all deasserted is not driven (R491, U11; DEDUCED, log 27). -/
def requestClash (o : PinsOut) (p : Pins) : Bool :=
  o.drivesReq && ((p.a != 0 && p.a != o.a) || (p.req != 0 && p.req != o.req) || (p.rp && !o.rp) ||
    (match p.ap with
      | some ap => ap != o.ap
      | none => false))

/-- Another agent drives D[127:0]# to other words than this processor, in a clock in which this one drives them (R491,
U11). -/
def dataClash (o : PinsOut) (p : Pins) : Bool :=
  o.drdy && (match p.d with
    | some d => d != (o.d0, o.d1)
    | none => false)

/-- Two drivers of a single-driver signal, or an ADS# in a clock b (U11, R491, R502). -/
def contention (s : State) (p : Pins) : Bool :=
  requestClash s.bus.out p || dataClash s.bus.out p || (s.bus.out.drivesReq && p.ads) ||
    (s.bus.latchA.isSome && (p.ads || s.bus.out.ads)) ||
    (s.bus.out.dbsy && p.dbsy) || (s.bus.out.drdy && p.drdy) || (s.bus.out.sbsy && p.sbsy) ||
    (s.bus.idLatch.isSome && p.ids)

/-- A parity error on the request, response or identifier pins sampled (R720). -/
def parityError (s : State) (q : Pins) : Bool :=
  ((q.ads || s.bus.latchA.isSome) && !requestParityOk q.ads q.a q.req q.ap q.rp) ||
    (q.rsp != responseParity q.rs) ||
    (match s.bus.idLatch with
      | some ida => q.id.getLsbD 0 != idParityA ida || q.id.getLsbD 1 != idParityB q.ids q.id
      | none => false)

/-- `reset_bus_fsm` with what else BINIT# resets: the rotating ID, the owner, the queues, the outputs (R50, R642,
R710). Requests not yet issued are no transactions in flight. A purge being carried out for another processor goes on, TND#
with it, of which the source says nothing (R42; DESIGN CHOICE, log 18). FERR# is deasserted with the other outputs: how
long it stands is not in the source (N48; DESIGN CHOICE, log 18). Of the count of clocks since the last ADS# the source says
only that it is lost: it starts again at 0, so that the next own request waits the whole spacing (R50; DESIGN CHOICE, log
18). -/
def Bus.resetFsm (b : Bus) : Bus :=
  { b with rotatingId := 3, owner := none, breqOut := false, breqLow := 1, latchA := none, issuing := [],
           nextB := none, ioq := [], deferred := [], idLatch := none, out := PinsOut.idle, sinceAds := 0 }

/-- BERR# sampled: a machine check is pending where sampling is enabled (R709). -/
def sampleBerr (q : Pins) (s : State) : State :=
  if q.berr && s.bus.poc.opts.berrSample then
    s.setCore { s.core with pending := { s.core.pending with mca := true } }
  else s

/-! ### Asynchronous pins (R572, D27) -/

/-- The pin is sampled: two clocks at a level are seen; one clock is seen if the environment says so (U12). -/
def AsyncPin.sample (x : AsyncPin) (level shortSeen : Bool) : AsyncPin :=
  let clocks := if level = x.level then x.clocks + 1 else 1
  { level, clocks, seen := if decide (2 ≤ clocks) || shortSeen then level else x.seen }

/-- A deasserted-to-asserted transition has been seen (D38, R705). -/
def AsyncPin.rose (old new : AsyncPin) : Bool := !old.seen && new.seen

/-- INIT# recognised (R706). -/
def Core.initEdge (c : Core) : Core := { c.wakeInit with pending := { c.pending with init := true } }

/-- PMI# recognised (R702). -/
def Core.pmiEdge (c : Core) : Core := { c.wakeHalted with pending := { c.pending with pmi := true } }

/-- LINT1 rises (R705, R707). The trigger of another local interrupt is not in the source: the rising edge (DESIGN CHOICE,
log 19). -/
def Core.lint1Edge (c : Core) : Core :=
  match c.lint1 with
  | .disabled => c
  | .nmi => c.nmiEdge
  | .other => { c with pending := { c.pending with local1 := true } }

/-- LINT0 rises (R707); as INT it is a level (R703). The trigger of another local interrupt is not in the source: the
rising edge (DESIGN CHOICE, log 19). -/
def Core.lint0Edge (c : Core) : Core :=
  match c.lint0 with
  | .other => { c with pending := { c.pending with local0 := true } }
  | _ => c

/-- INT stands and is not masked: a halted core wakes (R665, R703). -/
def Core.intLevel (c : Core) (seen : Bool) : Core :=
  if c.lint0 = .int ∧ seen ∧ ¬ c.intMasked then c.wakeHalted else c

/-- The core's side of the four asynchronous pins. A20M# and IGNNE# are ignored (R714). -/
def asyncCore (old : Bus) (lint0 lint1 init pmi : AsyncPin) (c : Core) : Core :=
  let c := if old.pmi.rose pmi then c.pmiEdge else c
  let c := if old.init.rose init then c.initEdge else c
  let c := if old.lint1.rose lint1 then c.lint1Edge else c
  let c := if old.lint0.rose lint0 then c.lint0Edge else c
  c.intLevel lint0.seen

/-- The asynchronous pins in one clock; whether a short pulse is seen is a choice for each of them (U12). -/
def samplePins (q : Pins) (s : State) : State :=
  let lint0 := s.bus.lint0.sample q.lint0 (q.shortSeen.getLsbD 0)
  let lint1 := s.bus.lint1.sample q.lint1 (q.shortSeen.getLsbD 1)
  let init := s.bus.init.sample q.init (q.shortSeen.getLsbD 2)
  let pmi := s.bus.pmi.sample q.pmi (q.shortSeen.getLsbD 3)
  { s with core := asyncCore s.bus lint0 lint1 init pmi s.core, bus := { s.bus with lint0, lint1, init, pmi } }

/-! ### Arbitration -/

/-- `req[k]` of R632: pin BR[k]#, the own request for k = 0. -/
def requestPin (b : Bus) (br : BitVec 3) (k : BitVec 2) : Bool :=
  if k = 0 then b.breqOut else br.getLsbD (k.toNat - 1)

/-- The request of agent `n`: pin BR[(n - arb_id) mod 4]# (R629, R632). -/
def requestOf (b : Bus) (br : BitVec 3) (n : BitVec 2) : Bool := requestPin b br (n - b.arbId)

/-- Some agent requests the bus. -/
def anyRequest (b : Bus) (br : BitVec 3) : Bool :=
  requestPin b br 0 || requestPin b br 1 || requestPin b br 2 || requestPin b br 3

/-- The first requester in the order r+1, r+2, r+3, r (R633). -/
def newOwner (r : BitVec 2) (request : BitVec 2 → Bool) : BitVec 2 :=
  if request (r + 1) then r + 1 else if request (r + 2) then r + 2 else if request (r + 3) then r + 3 else r

/-- The bus goes to the new owner, who has the lowest priority next (R634). -/
def Bus.grant (b : Bus) (br : BitVec 3) : Bus :=
  { b with owner := some (newOwner b.rotatingId (requestOf b br)),
           rotatingId := newOwner b.rotatingId (requestOf b br) }

/-- The arbitration of one clock: an event on an idle bus, an event on a release, a release to idle, or none
(R632). -/
def Bus.arbitrate (b : Bus) (br : BitVec 3) : Bus :=
  match b.owner with
  | none => if anyRequest b br then b.grant br else b
  | some o =>
    if requestOf b br o then b
    else if anyRequest b br then b.grant br
    else { b with owner := none }

/-- The arbitration of one clock; none while the configuration window after RESET# is open, one clock of which passes
(R777, D41). -/
def Bus.arbitrateClock (b : Bus) (br : BitVec 3) : Bus :=
  if b.configClocks = 0 then b.arbitrate br else { b with configClocks := b.configClocks - 1 }

/-- BNR#, BPRI# and ADS# as sampled (R52, R622, R638, R639). -/
def Bus.sampleFlags (b : Bus) (q : Pins) : Bus :=
  { b with stalled := q.bnr, bpriSeen := q.bpri, sinceAds := if q.ads then 1 else b.sinceAds + 1 }

/-! ### Snoop, response -/

/-- The first element for which `p` holds is changed by `f`. -/
def updateFirst {α : Type} (p : α → Bool) (f : α → α) : List α → List α
  | [] => []
  | x :: rest => if p x then f x :: rest else x :: updateFirst p f rest

/-- The transaction's snoop result as sampled; `supply` is the line of this processor when it was the one that drove HITM#
(R623). -/
def Txn.snoopedAs (q : Pins) (supply : Option LineData) (t : Txn) : Txn :=
  { t with supplies := supply.isSome, wbuf := supply.getD t.wbuf,
           snoop := some { hit := q.hit, hitm := q.hitm, defer := q.defer && !q.hitm, gseq := q.gseq } }

/-- The snoop phase of the oldest transaction that has none; HIT# and HITM# together stall it; HITM# overrides DEFER#
(R174, R623). -/
def snoopPhase (q : Pins) (s : State) : State :=
  if q.snoopPhase && !(q.hit && q.hitm) then
    { s with bus := { s.bus with ioq := updateFirst (·.snoop.isNone) (Txn.snoopedAs q (suppliedLine s)) s.bus.ioq } }
  else s

/-- HITM# stands in the snoop result of a memory access: the line comes by implicit writeback. What HITM# means for any other
transaction, an I/O access among them, is not in the source (R110): it brings no line (DESIGN CHOICE, log 16). -/
def Txn.hitm (t : Txn) : Bool :=
  t.row.isMemory && (match t.snoop with
    | some x => x.hitm
    | none => false)

/-- The response lets data flow: normal, or with an implicit writeback. How RS[2:0]# alters the length of the transfer is
not in the source (R106, N11): these two are treated alike, HITM# alone brings the line, and the three others move no data
(DESIGN CHOICE, log 16). -/
def Txn.dataPhase (t : Txn) : Bool :=
  match t.response with
  | some .normal => true
  | some .implicitWriteback => true
  | _ => false

/-- The transaction waits for TRDY#: a write, or an implicit writeback; not one whose response lets no data flow (R567,
R624, R625). -/
def Txn.wantsTrdy (t : Txn) : Bool := !t.trdy && (t.row.isWrite || t.hitm) && (t.response.isNone || t.dataPhase)

/-- The transaction has its response; a Bus Invalidate Line transaction may be answered with a whole line (R106, R118,
R624). -/
def Txn.answeredAs (q : Pins) (k : RespKind) (t : Txn) : Txn :=
  { t with response := some k, bilLine := t.isBil && !t.hitm && q.bilLine }

/-- TRDY# is sampled in the response phase of a transaction: it is for the oldest that waits for it, once its snoop result
is known and every older transaction has its response (R493, R567, R625). -/
def takeTrdy : List Txn → List Txn
  | [] => []
  | t :: rest =>
    if t.wantsTrdy && t.snoop.isSome then { t with trdy := true } :: rest
    else if t.response.isSome then t :: takeTrdy rest
    else t :: rest

/-- The response phase: RS[2:0]# answers the oldest transaction that has a snoop result and no response; TRDY# is taken
(R624, R625). -/
def responsePhase (q : Pins) (s : State) : State :=
  let ioq := match responseKind q.rs with
    | none => s.bus.ioq
    | some k => updateFirst (fun t => t.snoop.isSome && t.response.isNone) (Txn.answeredAs q k) s.bus.ioq
  let ioq := if q.trdy then takeTrdy ioq else ioq
  { s with bus := { s.bus with ioq } }

/-! ### Data -/

/-- The words of the implicit writeback, before any other word of the transaction. -/
def Txn.wbWords (t : Txn) : Nat := if t.hitm then 8 else 0

/-- All words of the transaction: the implicit writeback's, a write's own, a read's own unless the writeback brings them,
the eight of a Bus Invalidate Line that is answered with a line, the one of it that is not: a partial transfer of 0 to 8
bytes takes one data clock (R106, R118, R625). That HITM#, and not the response, adds the eight words of a line is the
model's choice (DESIGN CHOICE, log 16). -/
def Txn.totalWords (t : Txn) : Nat :=
  t.wbWords + (if t.row.isWrite then xferWords t.len else if t.hitm then 0 else if t.bilLine then 8
    else if t.dataless then 0 else xferWords t.len)

/-- The number of words at the end of the run of words that one agent is driving: the implicit writeback's, or all. -/
def Txn.runEnd (t : Txn) : Nat := if t.got < t.wbWords then t.wbWords else t.totalWords

/-- All words have been transferred. -/
def Txn.dataDone (t : Txn) : Bool := decide (t.totalWords ≤ t.got)

/-- This processor drives the next word: the line it supplies, or its own write's data (R625). -/
def Txn.weDrive (t : Txn) : Bool :=
  if t.got < t.wbWords then t.supplies else t.row.isWrite && t.src.isSome

/-- Words moved in one clock with DRDY#: two, but one where the part has but one (R625). -/
def Txn.burst (t : Txn) : Nat :=
  if t.got < t.wbWords then 2 else if t.totalWords - t.got = 1 then 1 else 2

/-- Word `k` of the transaction. -/
def Txn.word (t : Txn) (k : Nat) : DataWord :=
  if k < t.wbWords then dataWord t.wbuf k else dataWord t.buf (k - t.wbWords)

/-- Word `k` of the transaction becomes `w`. -/
def Txn.putWord (t : Txn) (k : Nat) (w : DataWord) : Txn :=
  if k < t.wbWords then { t with wbuf := Sys2Proof.putWord t.wbuf k w }
  else { t with buf := Sys2Proof.putWord t.buf (k - t.wbWords) w }

/-- What the responding memory holds of the bytes a read asks for: a whole line for a Bus Invalidate Line answered with
one. -/
def responderData (m : Memory) (t : Txn) : LineData :=
  if t.bilLine then m.transfer (linePins (lineOf t.req.addr)) 0b100 else m.transfer t.req.addr t.len

/-- The words the others drive in this clock: those on the pins; none there means the responding memory's for a memory
read, any value else, an I/O read's and an interrupt acknowledge's among them: I/O is a space of its own (R105, R110;
log 5). -/
def incoming (s : State) (q : Pins) (t : Txn) : DataWord × DataWord :=
  match q.d with
  | some d => d
  | none =>
    if t.row.isMemory && t.row.isRead && decide (t.wbWords ≤ t.got) then
      (dataWord (responderData s.mem t) (t.got - t.wbWords), dataWord (responderData s.mem t) (t.got - t.wbWords + 1))
    else (dataWord (Config.freeLine s.free) 0, dataWord (Config.freeLine s.free) 1)

/-- The words of a clock with DRDY# arrive. -/
def Txn.receive (t : Txn) (d : DataWord × DataWord) : Txn :=
  let u := t.putWord t.got d.1
  let u := if t.burst = 2 then u.putWord (t.got + 1) d.2 else u
  { u with got := t.got + t.burst }

/-- The data bus and the strobe bus are held in a clock without a transfer (R519, R528, R555). -/
def holdPins (o : PinsOut) : PinsOut := { o with dbsy := true, sbsy := true }

/-- What is driven in a clock of an own data transfer: first DBSY# and SBSY#, then DRDY# with the words (R625). R625 has SBSY#
hold the strobe bus before the first DRDY#; that DBSY# is asserted with it, and both for at least one clock before the first
DRDY#, is the model's choice: how long before is not in the source (R519; DESIGN CHOICE, log 31). SBSY# is deasserted before
DBSY# (R555): exactly how long before is not in the source; it is released in the last DRDY# clock, DBSY# one clock later
(DESIGN CHOICE, log 31). What D[127:0]# carries as the second word of a DRDY# clock in which one word only is transferred (a
partial transfer or one of 16 bytes) is not in the source: 0, with the check bits of 0 (R517, R559, R625, D26; DESIGN CHOICE,
log 16). -/
def drivePins (t : Txn) (o : PinsOut) : PinsOut :=
  if !t.lead then holdPins o
  else { o with dbsy := true, drdy := true, sbsy := decide (t.got + t.burst < t.runEnd), d0 := t.word t.got,
                d1 := if t.burst = 2 then t.word (t.got + 1) else 0 }

/-- The transaction after a clock in which this processor drives its data. -/
def Txn.driven (t : Txn) : Txn := if !t.lead then { t with lead := true } else { t with got := t.got + t.burst }

/-- A protected word that is transferred in this clock has an uncorrectable error: the words of the second transfer only
where there is one (R721). -/
def eccUncorrectable (q : Pins) (t : Txn) : Bool :=
  q.ecc[0] == .uncorrectable || q.ecc[1] == .uncorrectable ||
    (t.burst == 2 && (q.ecc[2] == .uncorrectable || q.ecc[3] == .uncorrectable))

/-- The receiver of the data finds an uncorrectable error with ECC checking enabled, and may drive BERR# for it: an error
in a bus transaction (R709, R721). A single-bit error is corrected; without BERR# no consequence is stated (log 20). -/
def eccError (b : Bus) (q : Pins) (t : Txn) : Bool :=
  b.poc.opts.eccCheck && b.poc.opts.berrOnBus && t.src.isSome && eccUncorrectable q t

/-- The head of the queue and what is driven, after the data phase of one clock (R625). An own transfer waits for TRDY#
and, before it begins, for the data bus and the strobe bus to be free of other agents (R519, R555): its own DBSY# of the
transfer before does not hold it back (DESIGN CHOICE, log 31); when it inserts idle clocks is the environment's choice
(R528; log 31). -/
def dataStep (s : State) (q : Pins) (t : Txn) (o : PinsOut) : Txn × PinsOut :=
  if !t.dataPhase || t.dataDone then (t, o)
  else if t.weDrive then
    if !t.trdy || (!t.lead && (q.dbsy || q.sbsy)) then (t, o)
    else if t.lead && q.holdData then (t, holdPins o)
    else (t.driven, drivePins t o)
  else if q.drdy then (t.receive (incoming s q t), { o with berr := o.berr || eccError s.bus q t })
  else (t, o)

/-- The data phase of one clock: data moves for the oldest transaction of the queue. -/
def dataPhase (q : Pins) (s : State) : State :=
  match s.bus.ioq with
  | [] => s
  | t :: rest =>
    let r := dataStep s q t s.bus.out
    { s with bus := { s.bus with ioq := r.1 :: rest, out := r.2 } }.drew 1

/-! ### Completion -/

/-- Memory after a completed transaction: the line of an implicit writeback, unless OWN# lets the memory ignore it and
it does (R119, R547); then the bytes a Memory Write carries (R101, R611). All of them are stored in the one step in which the
transaction completes, though the source states no atomicity beyond 8 bytes (R109; DESIGN CHOICE, log 16). -/
def memoryAfter (t : Txn) (ignoreWb : Bool) (m : Memory) : Memory :=
  let m1 := if t.hitm && !(t.req.b.exf2 && !t.row.isWrite && ignoreWb)
    then m.writeAll (lineCells (lineOf t.req.addr) t.wbuf) else m
  if t.row = .memWrite then m1.writeAll (storedCells t.req.addr t.len t.req.b.be t.buf) else m1

/-- The caches after another agent's completed transaction: a Memory Read & Invalidate, a snooped write and any request
with FCL# take the line away; a read of a line held modified leaves it clean or takes it away, which of them is not in
the source; a Memory Read Current changes nothing (R119, R608 to R611, R661, log 17). -/
def cacheAfterOther (t : Txn) (keep : Bool) (cs : List CacheLine) : List CacheLine :=
  if !t.snooped then cs
  else if !t.keepsLine then dropLine cs (lineOf t.req.addr)
  else if t.row = .memRead && t.supplies then
    (if keep then cleanLine cs (lineOf t.req.addr) else dropLine cs (lineOf t.req.addr))
  else cs

/-- The caches after an own completed transaction: a cache cleanse does not invalidate the line (R515, R611); that it is
unmodified from then on is the model's choice (DESIGN CHOICE, log 17). -/
def cacheAfterOwn (t : Txn) (cs : List CacheLine) : List CacheLine :=
  if t.row = .memWrite && t.req.b.exf2 then cleanLine cs (lineOf t.req.addr) else cs

/-- The requests to write back a line that has been supplied, not yet issued: what is left of each of them (R661). -/
def dropWritebacks (t : Txn) (qs : List OutReq) : List OutReq :=
  if t.supplies then
    qs.filterMap fun q =>
      if (pendingWriteback [q] (lineOf t.req.addr)).isNone then some q else q.afterSupply (lineOf t.req.addr)
  else qs

/-- The data a read brought: from the implicit writeback's line where there is one, by the lanes of its address; all of it
for a Bus Invalidate Line (R106, R608). -/
def Txn.readData (t : Txn) : LineData :=
  if t.hitm then
    (if t.isBil then t.wbuf
     else if t.len = 0 then (t.wbuf >>> (128 * (t.req.addr.extractLsb' 1 3).toNat)) &&& (BitVec.allOnes 128).zeroExtend 1024
     else (t.wbuf >>> (64 * (t.req.addr.extractLsb' 0 4).toNat)) &&& (BitVec.allOnes 1024 >>> (1024 - 8 * xferBytes t.len)))
  else t.buf

/-- What the core gets of its completed request `q`: the value its bytes stand for in its byte order (R104, R105); the line
that came for a Bus Invalidate Line; where none came, its data clock, in which no byte is enabled (R106, R608). -/
def completionOf (t : Txn) (q : OutReq) (data : LineData) : Completion :=
  { purpose := q.purpose, addr := t.req.addr, len := t.len, endian := q.endian,
    data := if t.isBil && (t.bilLine || t.hitm) then data else laneValue q.endian t.req.addr t.len t.req.b.be data,
    hit := match t.snoop with
      | some x => x.hit
      | none => false }

/-- The core after its request `q` has completed: the vector of an interrupt acknowledge is taken (R703, R704), a TLB
purge waits for TND# (R664), a read's data is delivered. A request that was answered with a failure has completed as well
(R624; DESIGN CHOICE, log 16). -/
def coreAfterOwn (t : Txn) (q : OutReq) (data : LineData) (c : Core) : Core :=
  match q.purpose with
  | .intAck => { (c.take .ext (laneByte data 0)) with wait := .none, run := .running }
  | .purge => { c with wait := if c.wait = .purgeBus then .purgeTnd else c.wait }
  | _ => if t.row.isRead then { c with inbox := c.inbox ++ [completionOf t q data] } else c

/-- A transaction is completed (R600). `ok` is false for a failed one, of which the source says nothing but that there is
the response (R624; DESIGN CHOICE, log 16, all of it): nothing reached memory and a read brings any value; every cache stays as
it was, the line snooped or cleansed among it, and so do the requests to write it back; and the own request counts as completed
like any other: a failed Purge TC leaves the core waiting for TND#, a failed Interrupt Acknowledge brings any vector. -/
def completeTxn (t : Txn) (ok : Bool) (s : State) : State :=
  let core := match t.src with
    | some q =>
      coreAfterOwn t q (if ok then t.readData else Config.freeLine s.free)
        { s.core with cache := if ok then cacheAfterOwn t s.core.cache else s.core.cache }
    | none => { s.core with cache := if ok then cacheAfterOther t (Config.freeBool s.free) s.core.cache else s.core.cache }
  { s with core, mem := if ok then memoryAfter t (Config.freeBool (s.free + 1)) s.mem else s.mem,
           bus := { s.bus with outQ := if ok then dropWritebacks t s.bus.outQ else s.bus.outQ }, free := s.free + 2 }

/-- A retried transaction of this processor is issued again later (R624), in a clock the environment chooses like any other.
It is listed before the own requests still waiting, so that a Sync of WBINVD waits for a write-back that was retried (R669). -/
def requeue (t : Txn) (qs : List OutReq) : List OutReq :=
  match t.src with
  | some q => q :: qs
  | none => qs

/-- The head of the queue, once it has its response and its data: completed, deferred, or to be issued again (R600,
R624). The response alone decides: a deferral without DEFER# in the snoop result and a retry after GSEQ#, of which the source
does not say what the processor does, are taken like any other, and so is a deferral of a transaction whose DEN# was
deasserted (R523, R623; DESIGN CHOICE, log 16). -/
def retire (s : State) : State :=
  match s.bus.ioq with
  | [] => s
  | t :: rest =>
    let s' := { s with bus := { s.bus with ioq := rest } }
    match t.response with
    | none => s
    | some .retry => { s' with bus := { s'.bus with outQ := requeue t s'.bus.outQ } }
    | some .deferred => { s' with bus := { s'.bus with deferred := s'.bus.deferred ++ [(t.req.b.did, t)] } }
    | some .failure => completeTxn t false s'
    | some .normal => if t.dataDone then completeTxn t true s' else s
    | some .implicitWriteback => if t.dataDone then completeTxn t true s' else s

/-! ### Deferred phase, TLB purge -/

/-- A transaction completed by a deferred phase: DHIT# is its final cache status, its data follows, of the length the
request asked for, or a line for a Bus Invalidate Line (R608, R626). -/
def deferredTxn (t : Txn) (dhit line : Bool) : Txn :=
  { t with reply := true, snoop := some { hit := dhit, hitm := false, defer := false, gseq := false },
           supplies := false, response := some .normal, trdy := false, lead := false, got := 0,
           bilLine := t.isBil && line }

/-- The second clock of a deferred phase: the identifier is matched (R601, R626). The phase is usable only for a requester
that asserted DPS# (R626): one for another's transaction is ignored like one that matches nothing (DESIGN CHOICE, log
30). -/
def matchDeferred (q : Pins) (b : Bus) : Bus :=
  match b.idLatch with
  | none => b
  | some ida =>
    match findDeferred b.deferred ida with
    | none => b
    | some t =>
      if t.req.b.dps then
        { b with deferred := dropDeferred b.deferred ida, ioq := b.ioq ++ [deferredTxn t (q.id.getLsbD 2) q.bilLine] }
      else b

/-- The deferred phase of one clock (R171, R626). -/
def deferredPhase (q : Pins) (s : State) : State :=
  let b := matchDeferred q s.bus
  { s with bus := { b with idLatch := if q.ids then some q.id else none } }

/-- The issuer of a TLB purge samples TND# once the transaction has completed (R664, D37). -/
def sampleTnd (q : Pins) (s : State) : State :=
  if s.core.wait = .purgeTnd ∧ q.tnd = false then s.setCore { s.core with wait := .none } else s

/-! ### Own requests -/

/-- DEN# of a request handed over. -/
def OutReq.den (q : OutReq) : Bool :=
  match q.instr.request with
  | some r => r.b.den
  | none => false

/-- The transaction ID of a request that is being issued. -/
def OutReq.tid (q : OutReq) : BitVec 5 :=
  match q.instr.request with
  | some r => r.tid
  | none => 0

/-- A deferrable own transaction that holds its transaction ID: its snoop result is outstanding or came with DEFER#
(R51, R623). -/
def Txn.holdsTid (t : Txn) : Bool :=
  t.src.isSome && t.req.b.den && (match t.snoop with
    | none => true
    | some x => x.defer)

/-- The transaction IDs this processor may not use: those of its deferrable requests in their request phase, of its
deferrable transactions that may still be deferred, and of its deferred ones (R51, R622, R623). -/
def tidsInUse (b : Bus) : List (BitVec 5) :=
  ((b.issuing.filter OutReq.den).map OutReq.tid) ++ ((b.ioq.filter Txn.holdsTid).map fun t => t.req.tid) ++
    ((b.deferred.filter fun p => p.2.src.isSome).map fun p => p.1.extractLsb' 0 5)

/-- The least transaction ID not in use. -/
def freeTid (b : Bus) : Option (BitVec 5) :=
  ((List.range 32).map (BitVec.ofNat 5)).find? fun t => !(tidsInUse b).contains t

/-- The request with what the processor always drives: DSZ = 01, DPS# asserted, its identifier (R107, R527, R622). -/
def ownFields (did : Did) (r : Request) : Request :=
  { r with dsz := 0b01, b := { r.b with did, exf := r.b.exf ||| 0b00001 } }

/-- The instruction with another request. -/
def mapRequest (f : Request → Request) : Instr → Instr
  | .deferredReply r low => .deferredReply (f r) low
  | .interruptAcknowledge r => .interruptAcknowledge (f r)
  | .special r => .special (f r)
  | .interrupt r => .interrupt (f r)
  | .purgeTc r => .purgeTc (f r)
  | .ioRead r low => .ioRead (f r) low
  | .ioWrite r low => .ioWrite (f r) low
  | .memReadInvalidate r asz len => .memReadInvalidate (f r) asz len
  | .memRead r asz dc len => .memRead (f r) asz dc len
  | .memWrite r asz wsnp len => .memWrite (f r) asz wsnp len
  | .memReadCurrent r asz len => .memReadCurrent (f r) asz len
  | .cacheLineReplacement r asz wsnp => .cacheLineReplacement (f r) asz wsnp
  | .reservedReq000001 r low => .reservedReq000001 (f r) low
  | .reservedReq00100001x r x => .reservedReq00100001x (f r) x
  | .reservedReq0010010xx r x => .reservedReq0010010xx (f r) x
  | .reservedReq00100111x r x => .reservedReq00100111x (f r) x
  | .reservedReq01100x r x low => .reservedReq01100x (f r) x low
  | .reservedReq0Asz011 r asz len => .reservedReq0Asz011 (f r) asz len
  | .reservedReq1Asz100 r asz len => .reservedReq1Asz100 (f r) asz len
  | i => i

/-- The own requests on the bus: in their request phase, in the in-order queue, in the table of the deferred ones (R51,
R600, R622). -/
def Bus.ownRequests (b : Bus) : List OutReq :=
  b.issuing ++ b.ioq.filterMap (·.src) ++ b.deferred.filterMap (·.2.src)

/-- A barrier, WBINVD's Sync, waits until the last write-back has completed (R669): until none stands `earlier` among the
requests handed over and none is on the bus. Those of another WBINVD that are on the bus hold it back as well (DESIGN CHOICE,
log 22). -/
def barrierOk (b : Bus) (earlier : List OutReq) (q : OutReq) : Bool :=
  !q.barrier || (earlier ++ b.ownRequests).all (·.purpose != .writeback)

/-- This processor may start a request in this clock: it owns the bus, BPRI# and BNR# are sampled deasserted, the
spacing of ADS# is kept, its clock b is not still to be driven, the configuration window is over (R622, R633, R638,
R639, R780). -/
def mayIssue (q : Pins) (b : Bus) : Bool :=
  b.owner == some b.arbId && b.breqOut && !q.bpri && !q.bnr && decide (Config.adsMinSpacing ≤ b.sinceAds) &&
    b.nextB.isNone && !q.ads && !q.holdIssue && b.configClocks == 0

/-- Pins driven in one clock of an own request phase. -/
def requestPins (o : PinsOut) (ads : Bool) (w : ClockWord) : PinsOut :=
  { o with ads, drivesReq := true, a := w.pins, req := w.req, ap := addressParity w.pins,
           rp := requestParity ads w.req }

/-- Clock a of the own request `q` is driven (R622). -/
def startRequest (c : OpenCells) (b : Bus) (q : OutReq) (rest : List OutReq) (tid : BitVec 5) : Bus :=
  let i := mapRequest (ownFields (ownDid b.arbId tid)) q.instr
  match encode c i with
  | .request wa wb =>
    { b with outQ := rest, issuing := b.issuing ++ [{ q with instr := i }], nextB := some wb, sinceAds := 0,
             out := requestPins b.out true wa }
  | _ => { b with outQ := rest }

/-- Clock b of the own request is driven, or a new request is started (R622): of those the core has handed over the one the
environment names, for between what the core does and what reaches the bus no order is promised (`Pins.pick`; R114, R660 b,
D5). Only a Sync waits for the write-backs before it (R669). -/
def issueStep (q : Pins) (s : State) : State :=
  match s.bus.nextB with
  | some wb => { s with bus := { s.bus with nextB := none, out := requestPins s.bus.out false wb } }
  | none =>
    match s.bus.outQ[q.pick]? with
    | none => s
    | some r =>
      let rest := s.bus.outQ.eraseIdx q.pick
      if mayIssue q s.bus && barrierOk s.bus (s.bus.outQ.take q.pick) r then
        if r.den then
          match freeTid s.bus with
          | some tid => { s with bus := startRequest s.platform.cells s.bus r rest tid }
          | none => s
        else
          { s with bus := startRequest s.platform.cells s.bus r rest ((Config.freeByte s.free).extractLsb' 0 5) }.drew 1
      else s

/-- BREQ: asserted when a request is waiting and the signal has been deasserted for a clock, outside the configuration
window, in the first such clock (DESIGN CHOICE, log 31); given up by the owner once another agent requests the bus; deasserted when the environment chooses: a withdrawal
before ownership, or the end of an owner's parking, which the source allows and does not require (R635, R636, R637, R777;
log 31). -/
def Bus.driveBreq (b : Bus) (q : Pins) : Bus :=
  let up := if b.breqOut then !(b.owner == some b.arbId && q.br != 0 && !q.holdBus) && !q.dropBreq
    else !b.outQ.isEmpty && decide (1 ≤ b.breqLow) && b.configClocks == 0
  { b with breqOut := up, breqLow := if up then 0 else b.breqLow + 1 }

/-! ### The clock -/

/-- The outputs of a clock before any phase has set one: all deasserted but BERR# after a bus error (R53, R709) and
FERR#, which no clock releases: how long it stands is not in the source (R715, N48; DESIGN CHOICE, log 18). BINIT# so stands for one clock: how long it is driven is not in the source (R710,
N48; DESIGN CHOICE, log 18). -/
def Bus.freshOut (b : Bus) (berr : Bool) : Bus := { b with out := { PinsOut.idle with berr, ferr := b.out.ferr } }

/-- Everything a bus clock does but the request phase that ends in it. -/
def clockPhases (q : Pins) (berr : Bool) (s : State) : State :=
  let s := sampleBerr q (samplePins q s)
  let s := { s with bus := ((s.bus.freshOut berr).arbitrateClock q.br).sampleFlags q }
  let s := sampleTnd q s
  let s := deferredPhase q s
  let s := retire (dataPhase q (responsePhase q (snoopPhase q s)))
  let s := issueStep q s
  { s with bus := s.bus.driveBreq q }

/-- The state in which the request phase of the clock is run: what is sampled, then every other phase. -/
def clockPrologue (p : Pins) (s : State) : State :=
  clockPhases (merged s p) (parityError s (merged s p)) s

end Sys2Proof.Machine
end

