-- ==== Sys2Proof/Machine/Thermal.lean ====
section
/-! DEFINITION. The processor's thermal state machine (R360 to R366): enhanced thermal management and thermal trip. -/

namespace Sys2Proof.Machine

/-- ETM entry and exit for one interval of `us` microseconds at a die temperature, and whether a CMCI is raised (R361,
R363, R364). -/
def Thermal.etm (t : Thermal) (dieTemp : Int) (us : Nat) : Thermal × Bool :=
  if !t.etmEnabled then (t, false)
  else match t.mode with
    | .normal =>
      if Config.tEtmEntry < dieTemp then ({ t with mode := .etmLowPower, belowTime := 0 }, true) else (t, false)
    | .etmLowPower =>
      let below := if dieTemp < Config.tEtmEntry then t.belowTime + us else 0
      if Config.etmExitDelay ≤ below then ({ t with mode := .normal, belowTime := 0 }, true)
      else ({ t with belowTime := below }, false)
    | .tripped => (t, false)

/-- The interruption record behind its parts. -/
def recordOf (x : VirtAddr × Bool × Nat × Byte) : Saved :=
  { pc := x.1, intMasked := x.2.1, event := Event.ofNumber x.2.2.1, vector := x.2.2.2 }

/-- The caches that hold these lines, each once. -/
def cacheOf : List (LineAddr × Bool × LineData) → List CacheLine
  | [] => []
  | x :: rest => setLine (cacheOf rest) { line := x.1, modified := x.2.1, data := x.2.2 }

/-- What the loss of the data leaves of the core: stopped, every register, event and cache line unspecified: which lines the
caches hold, modified or not, and what is in them (R365, U25). That it waits for nothing and that completed results not yet
taken are gone is the model's choice (DESIGN CHOICE, log 18). -/
def Core.lost (free : Nat) : Core :=
  { gr := Config.freeGr free, fr := Config.freeFr (free + 1), pr := Config.freePr (free + 2),
    pc := Config.free64 (free + 3), run := .stopped, wait := .none,
    xtprValue := (Config.freeByte (free + 4)).extractLsb' 0 4, xtprDisable := Config.freeBool (free + 5),
    lint0 := Lint0Mode.ofByte (Config.freeByte (free + 6)), lint1 := Lint1Mode.ofByte (Config.freeByte (free + 7)),
    nmiInService := Config.freeBool (free + 8), nmiPending := Config.freeBool (free + 9),
    intMasked := Config.freeBool (free + 10),
    pending :=
      { mca := Config.freeBool (free + 11), pmi := Config.freeBool (free + 12), init := Config.freeBool (free + 13),
        nmi := Config.freeBool (free + 14), cmci := Config.freeTime (free + 15), ext := Config.freeVectors (free + 16),
        local0 := Config.freeBool (free + 17), local1 := Config.freeBool (free + 18) },
    saved := (Config.freeRecords (free + 19)).map recordOf,
    tlb := (Config.freeRanges (free + 20)).map fun x => { first := x.1, last := x.2 },
    cpuidOut := Config.free64 (free + 21), inbox := [], cache := cacheOf (Config.freeCache (free + 22)) }

/-- The processor's data is lost: its core's, and every transaction in flight, purge under way and request handed over
(R365, R716). What becomes of the bus interface is not in the source (N27): every output is deasserted, a request or a
transfer half driven among them, and the rotating ID and the owner are as after reset (R53; DESIGN CHOICE, log 18). The power-on
configuration, the arbitration ID, the levels last sampled and the clocks left of the configuration window are kept (DESIGN
CHOICE, log 18). -/
def dataLost (s : State) : State :=
  { s with core := Core.lost s.free, bus := { s.bus.resetFsm with outQ := [], tlbPurging := [] }, special := none,
           free := s.free + 23 }

/-- Thermal trip: THRMTRIP# asserted, execution stopped, data lost (R365, R716). -/
def thermalTrip (s : State) : State :=
  { dataLost s with
    thermal := { s.thermal with mode := .tripped, belowTime := 0, thrmtrip := true },
    platform := { s.platform with powerState := .thermalTripShutdown } }

/-- A CMCI is raised (R708): counted, not merged (D39). Whether it also appears on the bus is not stated: no transaction is
issued for it (DESIGN CHOICE, log 25). -/
def raiseCmci (c : Core) : Core := { c with pending := { c.pending with cmci := c.pending.cmci + 1 } }

/-- The thermal monitor in one interval of constant die temperature (R350, R360): only RESET# leaves the tripped state
(R366); a processor in reset or without power has none (R770, R812; log 25); while PWRGOOD is low outside RESET# it goes on,
for R360 has it evaluated continuously and R771 says only that the processor is held off (DESIGN CHOICE, log 25). With `us` = 0 it evaluates what has changed
in this moment. -/
def thermalStep (us : Nat) (s : State) : State :=
  if s.bus.inReset || !s.powered then s
  else if s.thermal.mode = .tripped then s
  else if Config.tTrip < s.platform.dieTemp then thermalTrip s
  else
    let r := s.thermal.etm s.platform.dieTemp us
    { s with thermal := r.1, core := if r.2 then raiseCmci s.core else s.core }

/-- The die temperature changes (R350, D22), and the monitor, which evaluates it continuously, sees it at once (R85, R86,
R360). -/
def setDieTemp (t : Int) (s : State) : State := thermalStep 0 { s with platform := { s.platform with dieTemp := t } }

end Sys2Proof.Machine
end

