-- ==== Sys2Proof/Machine/CoreAct.lean ====
section
/-! DEFINITION. The internal steps of the opaque core (R660 a, b; D1): the model lets it do anything to the state the
source gives it without a rule of its own, one thing at a time. -/

namespace Sys2Proof.Machine

/-- A row this processor issues as a requester: no Deferred Reply (R601), no reserved row (R613), no special transaction with
a reserved code (R621) or Stopgrant Acknowledge's (R667), nothing of the SMBus. -/
def issuable : Instr → Bool
  | .special r => isSpecialCode r.b.be && r.b.be != 0x06
  | .interruptAcknowledge _ | .interrupt _ | .purgeTc _ | .ioRead _ _ | .ioWrite _ _ => true
  | .memReadInvalidate _ _ _ | .memRead _ _ _ _ | .memWrite _ _ _ _ | .memReadCurrent _ _ _ => true
  | .cacheLineReplacement _ _ _ => true
  | _ => false

/-- An own transaction is outstanding: this agent is "the requesting agent of a bus transaction" (R709). -/
def isRequester (b : Bus) : Bool := !b.issuing.isEmpty || b.ioq.any (·.src.isSome) || b.deferred.any (·.2.src.isSome)

/-- An internal error: FERR# in IERR mode, if the core reports it so; BERR# by the requester where configured (R709,
R715). -/
def internalError (ferr : Bool) (b : Bus) : Bus :=
  { b with out := { b.out with ferr := b.out.ferr || (b.poc.opts.ierrMode && ferr),
                               berr := b.out.berr || (b.poc.opts.berrOnInternal && isRequester b) } }

/-- A bus condition that prevents reliable operation: BINIT# where this agent may drive it (R710). -/
def fatalBusCondition (b : Bus) : Bus := { b with out := { b.out with binit := b.out.binit || b.poc.opts.binitDrive } }

/-- ETM is enabled or disabled through PAL; disabled, the machine has only Normal and Tripped (R361, R364); enabled, the
monitor evaluates the die temperature at once, where this is run (R360). -/
def setEtm (enabled : Bool) (t : Thermal) : Thermal :=
  { t with etmEnabled := enabled, belowTime := if enabled then t.belowTime else 0,
           mode := if enabled then t.mode else if t.mode = .etmLowPower then .normal else t.mode }

/-- What an internal step does. A local interrupt or an NMI that is pending already stays pending when its pin is
configured otherwise, and a pin that stands asserted then is no edge: the source says nothing of either (R707; DESIGN CHOICE,
log 19). -/
def coreActEffect (s : State) : CoreAct → State
  | .internal => s
  | .writeGr i v => s.setCore { s.core with gr := s.core.gr.set i v }
  | .writeFr i v => s.setCore { s.core with fr := s.core.fr.set i v }
  | .writePr i v => s.setCore { s.core with pr := s.core.pr.set i v }
  | .branch pc => s.setCore { s.core with pc }
  | .mask m => s.setCore { s.core with intMasked := m }
  | .configureLint0 m => s.setCore { s.core with lint0 := m }
  | .configureLint1 m => s.setCore { s.core with lint1 := m }
  | .etm enabled => thermalStep 0 { s with thermal := setEtm enabled s.thermal }
  | .ret => s.setCore s.core.ret
  | .cacheSet c => s.setCore { s.core with cache := setLine s.core.cache c }
  | .cacheDrop l => s.setCore { s.core with cache := dropLine s.core.cache l }
  | .tlbInsert r => s.setCore { s.core with tlb := r :: s.core.tlb }
  | .request i data endian =>
    if i.wf && issuable i then
      s.enqueue [{ instr := i, purpose := .core, endian, data, barrier := false }]
    else s
  | .consume => s.setCore { s.core with inbox := s.core.inbox.drop 1 }
  | .internalError ferr => { s with bus := internalError ferr s.bus }
  | .fatalBusCondition => { s with bus := fatalBusCondition s.bus }

/-- A step of the bus agent's, not of the executing core: an error it observes. -/
def CoreAct.ofAgent : CoreAct → Bool
  | .internalError _ | .fatalBusCondition => true
  | .internal | .writeGr _ _ | .writeFr _ _ | .writePr _ _ | .branch _ | .mask _ | .configureLint0 _ => false
  | .configureLint1 _ | .etm _ | .ret | .cacheSet _ | .cacheDrop _ | .tlbInsert _ | .request _ _ _ | .consume => false

/-- When an internal step can happen: the core's when it can execute (R660); an error is signalled as long as the processor
takes part in the bus, be its core halted, shut down or waiting (R627, R709, R710). -/
def CoreAct.ready (a : CoreAct) (s : State) : Bool := if a.ofAgent then s.onBus else s.coreReady

/-- An internal step (R660, R709, R710). -/
def coreAct (a : CoreAct) (s : State) : State := if a.ready s then coreActEffect s a else s

/-- A purge this processor was carrying out is done: the overlapping entries are gone, and TND# is released with the
last of them (R664). A processor that takes no part in the bus carries none out: with PWRGOOD low it is held off, the purge
and TND# with it (R771, log 18). -/
def purgeDone (s : State) : State :=
  if s.onBus then
    match s.bus.tlbPurging with
    | [] => s
    | r :: rest =>
      { s with core := { s.core with tlb := purgeTlb s.core.tlb r }, bus := { s.bus with tlbPurging := rest } }
  else s

end Sys2Proof.Machine
end

