-- ==== Sys2Proof/Machine/BusRequest.lean ====
section
/-! DEFINITION. The system bus requests of Table A-10 (R601 to R613), as this processor observes them at the end of
their request phase, its own among them: the transaction enters the in-order queue (R600, R622). The later phases are
in Machine/Bus.lean. -/

namespace Sys2Proof.Machine

/-- A deferred transaction taken up again by a Deferred Reply: the reply's snoop result, response and data are its
own (R601). Whether a processor that is not its issuer snoops it again then is not in the source: it does (DESIGN CHOICE,
log 30). -/
def replyTxn (t : Txn) : Txn :=
  { t with reply := true, snoop := none, supplies := false, response := none, trdy := false, lead := false, got := 0,
           bilLine := false }

/-- A Deferred Reply: the identifier on Aa[25:16] is matched with the deferred transactions (R601). -/
def observeReply (r : Request) (s : State) : State :=
  match findDeferred s.bus.deferred r.replyDid with
  | none => s.append .deferredReply r false 0
  | some t =>
    { s with bus := { s.bus with deferred := dropDeferred s.bus.deferred r.replyDid, ioq := s.bus.ioq ++ [replyTxn t] } }

/-- The range a Purge TC request describes (R605). -/
def purgeRangeOf (r : Request) : PurgeRange := { first := Config.purgeFirst r.addr, last := Config.purgeLast r.addr }

/-- A purge of another processor: this one holds TND# asserted until it has carried it out (R605, R664). Whether two purges
may be in flight at once is not stated (R566, R664): any number may, they are carried out in the order observed, and TND# is
released with the last of them (DESIGN CHOICE, log 40). A Purge TC is carried out when its request phase is observed, also if
it is retried or fails later (DESIGN CHOICE, log 16). -/
def observePurge (r : Request) (s : State) : State :=
  let held := if r.isOwn s.bus.arbId then s.bus.tlbPurging else s.bus.tlbPurging ++ [purgeRangeOf r]
  { s with bus := { s.bus with tlbPurging := held } }

/-- An Interrupt transaction: delivered with its vector to the core of the processor it addresses (R604, D36). -/
def observeInterrupt (r : Request) (s : State) : State :=
  let vectors := if Config.interruptTarget r.addr = s.bus.arbId
    then s.core.pending.ext ++ [Config.interruptVector r.addr] else s.core.pending.ext
  { s with core := { s.core with pending := { s.core.pending with ext := vectors } } }

/-- DEFERRED_REPLY (R601). BE[7:0]# of it is reserved, and what a value other than 0 does is not in the source: any is
accepted and ignored (R170, R507; DESIGN CHOICE, log 21). -/
def execDeferredReply (r : Request) (_low : BitVec 3) (s : State) : Host.Outcome State Fault Refusal :=
  unlessMalformed r.malformedAttr (observeReply r s)

/-- INTERRUPT_ACKNOWLEDGE (R602). -/
def execInterruptAcknowledge (r : Request) (s : State) : Host.Outcome State Fault Refusal :=
  unlessMalformed r.malformed (s.append .interruptAcknowledge r false 0)

/-- SPECIAL (R603): the code on BE[7:0]# is read next (R164, R170). -/
def execSpecial (r : Request) (s : State) : Host.Outcome State Fault Refusal :=
  unlessMalformed r.malformed { s.append .special r false 0 with special := some r }

/-- INTERRUPT (R604). -/
def execInterrupt (r : Request) (s : State) : Host.Outcome State Fault Refusal :=
  unlessMalformed r.malformed (observeInterrupt r (s.append .interrupt r false 0))

/-- PURGE_TC (R605). -/
def execPurgeTc (r : Request) (s : State) : Host.Outcome State Fault Refusal :=
  unlessMalformed r.malformed (observePurge r (s.append .purgeTc r false 0))

/-- IO_READ (R606): always partial (R110). -/
def execIoRead (r : Request) (_low : BitVec 3) (s : State) : Host.Outcome State Fault Refusal :=
  unlessMalformed r.malformed (s.append .ioRead r false 0)

/-- IO_WRITE (R607): always partial (R110). -/
def execIoWrite (r : Request) (_low : BitVec 3) (s : State) : Host.Outcome State Fault Refusal :=
  unlessMalformed r.malformed (s.append .ioWrite r false 0)

/-- MEM_READ_INVALIDATE (R608). -/
def execMemReadInvalidate (r : Request) (asz : BitVec 2) (len : BitVec 3) (s : State) :
    Host.Outcome State Fault Refusal :=
  unlessMalformed (r.malformedMem asz len) (s.append .memReadInvalidate r false len)

/-- MEM_READ (R609). -/
def execMemRead (r : Request) (asz : BitVec 2) (dc : BitVec 1) (len : BitVec 3) (s : State) :
    Host.Outcome State Fault Refusal :=
  unlessMalformed (r.malformedMem asz len) (s.append .memRead r (dc == 1) len)

/-- MEM_WRITE (R611). -/
def execMemWrite (r : Request) (asz : BitVec 2) (wsnp : BitVec 1) (len : BitVec 3) (s : State) :
    Host.Outcome State Fault Refusal :=
  unlessMalformed (r.malformedMem asz len) (s.append .memWrite r (wsnp == 1) len)

/-- MEM_READ_CURRENT (R610). -/
def execMemReadCurrent (r : Request) (asz : BitVec 2) (len : BitVec 3) (s : State) :
    Host.Outcome State Fault Refusal :=
  unlessMalformed (r.malformedMem asz len) (s.append .memReadCurrent r false len)

/-- CACHE_LINE_REPLACEMENT (R612): it carries no data. -/
def execCacheLineReplacement (r : Request) (asz : BitVec 2) (wsnp : BitVec 1) (s : State) :
    Host.Outcome State Fault Refusal :=
  unlessMalformed (r.malformedMem asz 0) (s.append .cacheLineReplacement r (wsnp == 1) 0)

/-- RESERVED_REQ_000001 (R613, U2). -/
def execReservedReq000001 (_r : Request) (_low : BitVec 3) (_s : State) : Host.Outcome State Fault Refusal :=
  .refused .reservedRequest

/-- RESERVED_REQ_001000_01X (R613, U2). -/
def execReservedReq00100001x (_r : Request) (_x : BitVec 1) (_s : State) : Host.Outcome State Fault Refusal :=
  .refused .reservedRequest

/-- RESERVED_REQ_001001_0XX (R613, U2). -/
def execReservedReq0010010xx (_r : Request) (_x : BitVec 2) (_s : State) : Host.Outcome State Fault Refusal :=
  .refused .reservedRequest

/-- RESERVED_REQ_001001_11X (R613, U2). -/
def execReservedReq00100111x (_r : Request) (_x : BitVec 1) (_s : State) : Host.Outcome State Fault Refusal :=
  .refused .reservedRequest

/-- RESERVED_REQ_01100X (R613, U2). -/
def execReservedReq01100x (_r : Request) (_x : BitVec 1) (_low : BitVec 3) (_s : State) :
    Host.Outcome State Fault Refusal :=
  .refused .reservedRequest

/-- RESERVED_REQ_0_ASZ_011 (R613, U2). -/
def execReservedReq0Asz011 (_r : Request) (_asz : BitVec 2) (_len : BitVec 3) (_s : State) :
    Host.Outcome State Fault Refusal :=
  .refused .reservedRequest

/-- RESERVED_REQ_1_ASZ_100 (R613, U2). -/
def execReservedReq1Asz100 (_r : Request) (_asz : BitVec 2) (_len : BitVec 3) (_s : State) :
    Host.Outcome State Fault Refusal :=
  .refused .reservedRequest

end Sys2Proof.Machine
end

