-- ==== Sys2Proof/Machine/Eeprom.lean ====
section
/-! DEFINITION. The packets of the two memories (R414 to R421). A packet whose address is not this package's leaves it
untouched: the host sees no acknowledge of it (R384). -/

namespace Sys2Proof.Machine

/-- A read of `n` bytes from the selected memory, after the data address of a random read if there is one. -/
def memoryRead (s : State) (sel : EeSel) (da : Option Byte) (n : Nat) : State :=
  if selects s sel.sma then
    let e := match da with
      | none => s.eeprom sel.pirom
      | some x => (s.eeprom sel.pirom).load x
    let r := Eeprom.readN n e
    (s.setEeprom sel.pirom r.2).answered ((if da.isSome then [.ack, .ack, .ack] else [.ack]) ++ r.1)
  else s.unanswered

/-- An attempt to write a protected memory: no byte of it changes (R420, R421). -/
def protectedWrite (s : State) (sel : EeSel) (da : Byte) (n : Nat) (acked : Bool) : State :=
  if selects s sel.sma then
    ((s.setEeprom sel.pirom ((s.eeprom sel.pirom).protectedWrite da acked (Config.freeCounter s.free))).answered
      (protectedAnswers n acked)).drew 1
  else s.unanswered

/-- A write of data bytes to the scratch EEPROM: with SMWP high it is an attempt at a protected one (R411, R418,
R419, R421). -/
def scratchWrite (s : State) (sma : BitVec 2) (da : Byte) (data : List Byte) : State :=
  if s.platform.smwp then protectedWrite s ⟨sma, false⟩ da data.length Config.scratchWpAck
  else if selects s sma then
    (s.setEeprom false (Eeprom.storeAll data (s.scratch.load da))).answered
      (.ack :: .ack :: List.replicate data.length .ack)
  else s.unanswered

/-- EE_CURRENT_ADDRESS_READ (R414). -/
def execEeCurrentAddressRead (sel : EeSel) (s : State) : Host.Outcome State Fault Refusal :=
  .next (memoryRead s sel none 1)

/-- EE_RANDOM_READ (R415). -/
def execEeRandomRead (sel : EeSel) (da : Byte) (s : State) : Host.Outcome State Fault Refusal :=
  .next (memoryRead s sel (some da) 1)

/-- EE_SEQUENTIAL_READ (R416): one byte, and one for each acknowledge of the host. -/
def execEeSequentialRead (sel : EeSel) (start : Option Byte) (more : Nat) (s : State) :
    Host.Outcome State Fault Refusal :=
  .next (memoryRead s sel start (more + 1))

/-- EE_BYTE_WRITE (R418). -/
def execEeByteWrite (sma : BitVec 2) (da d : Byte) (s : State) : Host.Outcome State Fault Refusal :=
  .next (scratchWrite s sma da [d])

/-- EE_PAGE_WRITE (R419). -/
def execEePageWrite (sma : BitVec 2) (da : Byte) (data : List Byte) (s : State) :
    Host.Outcome State Fault Refusal :=
  .next (scratchWrite s sma da data)

/-- EE_WRITE_TO_PIROM (R420): the PIROM is permanently write-protected. -/
def execEeWriteToPirom (sma : BitVec 2) (da : Byte) (data : List Byte) (s : State) :
    Host.Outcome State Fault Refusal :=
  .next (protectedWrite s ⟨sma, true⟩ da data.length Config.piromWriteAck)

/-- EE_WRITE_PROTECTED (R421): a write to the scratch EEPROM with SMWP high. -/
def execEeWriteProtected (sma : BitVec 2) (da : Byte) (data : List Byte) (s : State) :
    Host.Outcome State Fault Refusal :=
  .next (protectedWrite s ⟨sma, false⟩ da data.length Config.scratchWpAck)

/-- `S a W {A} da {A} P`: the write with no data that loads the address counter (R415, R420). -/
def loadAddressPacket (sel : EeSel) (da : Byte) (s : State) : State :=
  if selects s sel.sma then
    (s.setEeprom sel.pirom ((s.eeprom sel.pirom).load da)).answered [.ack, .ack]
  else s.unanswered

/-- `S a W {A} P`: nothing has been received; all state is unchanged (R422). -/
def probePacket (a : SmbAddr) (s : State) : State :=
  if (isMemoryAddress a && selects s (addressSel a).sma) || sensorSelects s a then s.answered [.ack]
  else s.unanswered

end Sys2Proof.Machine
end

