-- ==== Sys2Proof/Machine/Sensor.lean ====
section
/-! DEFINITION. The packets of the thermal sensing device (R435 to R450) and its converter (R455 to R467). -/

namespace Sys2Proof.Machine

/-- The state with another sensor record. -/
def State.setSensor (s : State) (x : Sensor) : State := { s with sensor := x }

/-- The read byte packet, common part (R435): the value is sampled, then the command's side effect happens. -/
def sensorRead (s : State) (t : SmbAddr) (c : Byte) : State :=
  if sensorSelects s t then
    ((s.setSensor ((s.sensor.commanded c).afterRead c)).answered
      [.ack, .ack, .ack, .data (s.sensor.value c (Config.freeByte s.free))]).drew 1
  else s.unanswered

/-- The write byte packet, common part (R442); `x` is the sensor after the command's effect. -/
def sensorWrite (s : State) (t : SmbAddr) (c : Byte) (x : Sensor) : State :=
  if sensorSelects s t then
    ((s.setSensor (x.writeCommanded c)).answered [.ack, .ack, .ack]).drew 1
  else s.unanswered

/-- RRT (R436): the temperature of the most recent conversion. -/
def execRrt (t : SmbAddr) (s : State) : Host.Outcome State Fault Refusal := .next (sensorRead s t 0x01)

/-- RS (R437): the status byte; then the alarm bits whose condition is gone are cleared. -/
def execRs (t : SmbAddr) (s : State) : Host.Outcome State Fault Refusal := .next (sensorRead s t 0x02)

/-- RC (R438). -/
def execRc (t : SmbAddr) (s : State) : Host.Outcome State Fault Refusal := .next (sensorRead s t 0x03)

/-- RCR (R439). -/
def execRcr (t : SmbAddr) (s : State) : Host.Outcome State Fault Refusal := .next (sensorRead s t 0x04)

/-- RRHL (R440). -/
def execRrhl (t : SmbAddr) (s : State) : Host.Outcome State Fault Refusal := .next (sensorRead s t 0x07)

/-- RRLL (R441). -/
def execRrll (t : SmbAddr) (s : State) : Host.Outcome State Fault Refusal := .next (sensorRead s t 0x08)

/-- WC (R443); a write of a reserved bit is refused (R77, U7). -/
def execWc (t : SmbAddr) (d : Byte) (s : State) : Host.Outcome State Fault Refusal :=
  unlessMalformed (if sensorSelects s t then configMalformed d else none)
    (sensorWrite s t 0x09 (s.sensor.writeConfig d (Config.freeTime s.free)))

/-- WCR (R444); a reserved rate is refused (R78, U7). The new period applies when the timer is next loaded. -/
def execWcr (t : SmbAddr) (d : Byte) (s : State) : Host.Outcome State Fault Refusal :=
  unlessMalformed (if sensorSelects s t then rateMalformed d else none)
    (sensorWrite s t 0x0A { s.sensor with convrate := d })

/-- WRHL (R445); no alarm is evaluated by the write. -/
def execWrhl (t : SmbAddr) (d : Byte) (s : State) : Host.Outcome State Fault Refusal :=
  .next (sensorWrite s t 0x0D { s.sensor with thigh := d })

/-- WRLL (R446). -/
def execWrll (t : SmbAddr) (d : Byte) (s : State) : Host.Outcome State Fault Refusal :=
  .next (sensorWrite s t 0x0E { s.sensor with tlow := d })

/-- OSHT (R448), in a send byte packet. -/
def execOsht (t : SmbAddr) (s : State) : Host.Outcome State Fault Refusal :=
  .next (if sensorSelects s t then
      (s.setSensor (s.sensor.oneShot.writeCommanded 0x0F)).answered [.ack, .ack]
    else s.unanswered)

/-- Another alerting sensor has a lower address and wins the transfer (R447, D33). -/
def araLost (s : State) : Bool :=
  match s.platform.araRival with
  | none => false
  | some r => decide (r.toNat < (sensorAddress s.platform.sma2 s.platform.sma1).toNat)

/-- ARA (R447): a sensor whose latch is set answers with its address followed by 1 and releases the latch; a sensor
that loses the transfer keeps it; one whose latch is clear stays silent. -/
def execAra (s : State) : Host.Outcome State Fault Refusal :=
  .next (if s.platform.smbusPower && s.sensor.alertLatch then
      if araLost s then s.answered [.ack]
      else (s.setSensor { s.sensor with alertLatch := false }).answered
        [.ack, .data (addressByte (sensorAddress s.platform.sma2 s.platform.sma1) 1)]
    else s.unanswered)

/-- RECEIVE_BYTE (R449): the register of the last read byte packet, with that command's side effect. With no such
packet before it the behaviour is undefined: any byte, and the sensor's state is unconstrained after it (U5, D10). -/
def execReceiveByte (t : SmbAddr) (s : State) : Host.Outcome State Fault Refusal :=
  .next (if sensorSelects s t then
      if s.sensor.cmdValid then
        ((s.setSensor (s.sensor.afterRead s.sensor.cmdPointer)).answered
          [.ack, .data (s.sensor.value s.sensor.cmdPointer (Config.freeByte s.free))]).drew 1
      else ((s.setSensor (s.sensor.havoc s.free)).answered [.ack, .data (Config.freeByte s.free)]).drew 18
    else s.unanswered)

/-- SENSOR_RESERVED_COMMAND (R450, U4): refused of the sensor it is sent to; another address's packet is none of
this package's. -/
def execSensorReservedCommand (t : SmbAddr) (_c : Byte) (_form : SensorForm) (s : State) :
    Host.Outcome State Fault Refusal :=
  if sensorSelects s t then .refused .reservedCommand else .next s.unanswered

/-- A read byte packet given up before its data byte: the command has been received, with what R435 does at its acknowledge
(`cmd_pointer`, `cmd_valid_for_receive`; R79), and the side effect of the data byte does not happen. The device has acknowledged
every byte up to there: two, or three when its second address byte was sent. -/
def abandonedReadPacket (t : SmbAddr) (c : Byte) (readdressed : Bool) (s : State) : Host.Outcome State Fault Refusal :=
  if sensorSelects s t then
    if isReadCommand c then
      .next ((s.setSensor (s.sensor.commanded c)).answered (List.replicate (if readdressed then 3 else 2) .ack))
    else .refused .reservedCommand
  else .next s.unanswered

/-! ### The converter -/

/-- Time passes with no conversion in progress; the rate timer runs in auto-convert mode (R455). A conversion that
comes due starts and the timer is loaded anew. -/
def Sensor.idleTime (x : Sensor) (us : Nat) : Sensor :=
  if standby x then x
  else if us < x.rateTimer then { x with rateTimer := x.rateTimer - us }
  else { x.startConversion with rateTimer := conversionPeriod x }

/-- Time passes during a conversion, which ends when its time is over (R457): a longer time is cut there (log 14). The
rate timer runs on by the time that has passed in auto-convert mode (R80, R455). -/
def Sensor.convertTime (x : Sensor) (us : Nat) (milliC : Int) (free internal : Byte) : Sensor :=
  let y := if standby x then x else { x with rateTimer := x.rateTimer - min us x.convLeft }
  if us < x.convLeft then { y with convLeft := x.convLeft - us } else y.finishConversion milliC free internal

/-- The reading the device computes, in thousandths of a degree: the one die temperature and the reading's error, which
the source bounds by an expectation only (R350, R460, D22). -/
def diodeReading (s : State) (error : Int) : Int := 1000 * s.platform.dieTemp + error

/-- Time passes for the sensor, if it has power. `us` reaches at most to the next thing that happens: a longer time is
cut there (log 14). -/
def sensorTime (us : Nat) (error : Int) (s : State) : State :=
  if s.platform.smbusPower then
    (s.setSensor (if s.sensor.converting then
        s.sensor.convertTime us (diodeReading s error) (Config.freeByte s.free) (Config.freeByte (s.free + 1))
      else s.sensor.idleTime us)).drew 2
  else s

/-- The diode connection opens or closes (R461). -/
def sensorDiode (isOpen : Bool) (s : State) : State := s.setSensor { s.sensor with openCond := isOpen }

/-- The device's actual rate is another one within 25 % of the nominal (R455); any other is no behaviour of it. -/
def sensorRate (mill : Nat) (s : State) : State :=
  if rateInTolerance mill then s.setSensor { s.sensor with rateMill := mill } else s

/-- The 3.3 V supply is applied: the sensor resets itself; TEMP, the converter's state, what is left of a conversion in
progress (log 14) and the time to the first conversion are open; the address counters hold any value; the memories keep
their bytes (R61, R62, R90, R431). -/
def smbusPowerUp (busy : Bool) (s : State) : State :=
  { s with
    platform := { s.platform with smbusPower := true },
    pirom := { s.pirom with counter := Config.freeCounter (s.free + 3) },
    scratch := { s.scratch with counter := Config.freeCounter (s.free + 4) },
    sensor :=
      { Sensor.reset with
        temp := Config.freeByte s.free, tempInternal := Config.freeByte (s.free + 1), converting := busy,
        convLeft := if busy then Config.freeTime (s.free + 5) % Config.tConv + 1 else 0,
        rateTimer := Config.freeTime (s.free + 2) % (conversionPeriod { Sensor.reset with rateMill := s.sensor.rateMill } + 1),
        rateMill := s.sensor.rateMill, openCond := s.sensor.openCond },
    free := s.free + 6 }

/-- The 3.3 V supply is applied or removed. -/
def smbusPower (on busy : Bool) (s : State) : State :=
  if on then (if s.platform.smbusPower then s else smbusPowerUp busy s)
  else { s with platform := { s.platform with smbusPower := false } }

end Sys2Proof.Machine
end

