-- ==== Sys2Proof/Machine/Special.lean ====
section
/-! DEFINITION. The special transactions of Table A-3 (R614 to R621), once their code has been read. Each is a
broadcast with no data that tells the platform something; no effect on another processor is stated, so what an
observing processor does is to know the transaction by its kind (R164, R603). -/

namespace Sys2Proof.Machine

/-- SPECIAL_NOP (R614): no effect on any agent. -/
def execSpecialNop (_r : Request) (s : State) : Host.Outcome State Fault Refusal := .next (s.markSpecial .nop)

/-- SPECIAL_SHUTDOWN (R615). -/
def execSpecialShutdown (_r : Request) (s : State) : Host.Outcome State Fault Refusal :=
  .next (s.markSpecial .shutdown)

/-- SPECIAL_FLUSH (R616). -/
def execSpecialFlush (_r : Request) (s : State) : Host.Outcome State Fault Refusal := .next (s.markSpecial .flush)

/-- SPECIAL_HALT (R617). -/
def execSpecialHalt (_r : Request) (s : State) : Host.Outcome State Fault Refusal := .next (s.markSpecial .halt)

/-- SPECIAL_SYNC (R618). -/
def execSpecialSync (_r : Request) (s : State) : Host.Outcome State Fault Refusal := .next (s.markSpecial .sync)

/-- SPECIAL_STOPGRANT_ACK (R619). -/
def execSpecialStopgrantAck (_r : Request) (s : State) : Host.Outcome State Fault Refusal :=
  .next (s.markSpecial .stopgrantAck)

/-- SPECIAL_XTPR_UPDATE (R620): the priority stands in clock b, the issuer in DID[8:5]. -/
def execSpecialXtprUpdate (_r : Request) (s : State) : Host.Outcome State Fault Refusal :=
  .next (s.markSpecial .xtprUpdate)

/-- SPECIAL_RESERVED (R621, U2). -/
def execSpecialReserved (_r : Request) (_s : State) : Host.Outcome State Fault Refusal := .refused .reservedSpecial

end Sys2Proof.Machine
end

