-- ==== Sys2Proof/Machine/Dispatch.lean ====
section
/-! DEFINITION. One arm for each constructor of `Instr`, one meaning for each arm. -/

namespace Sys2Proof.Machine

def exec (i : Instr) (s : State) : Host.Outcome State Fault Refusal :=
  match i with
  | .eeCurrentAddressRead sel => Sys2Proof.Machine.execEeCurrentAddressRead sel s
  | .eeRandomRead sel da => Sys2Proof.Machine.execEeRandomRead sel da s
  | .eeSequentialRead sel start more => Sys2Proof.Machine.execEeSequentialRead sel start more s
  | .eeByteWrite sma da d => Sys2Proof.Machine.execEeByteWrite sma da d s
  | .eePageWrite sma da data => Sys2Proof.Machine.execEePageWrite sma da data s
  | .eeWriteToPirom sma da data => Sys2Proof.Machine.execEeWriteToPirom sma da data s
  | .eeWriteProtected sma da data => Sys2Proof.Machine.execEeWriteProtected sma da data s
  | .rrt t => Sys2Proof.Machine.execRrt t s
  | .rs t => Sys2Proof.Machine.execRs t s
  | .rc t => Sys2Proof.Machine.execRc t s
  | .rcr t => Sys2Proof.Machine.execRcr t s
  | .rrhl t => Sys2Proof.Machine.execRrhl t s
  | .rrll t => Sys2Proof.Machine.execRrll t s
  | .wc t d => Sys2Proof.Machine.execWc t d s
  | .wcr t d => Sys2Proof.Machine.execWcr t d s
  | .wrhl t d => Sys2Proof.Machine.execWrhl t d s
  | .wrll t d => Sys2Proof.Machine.execWrll t d s
  | .osht t => Sys2Proof.Machine.execOsht t s
  | .ara => Sys2Proof.Machine.execAra s
  | .receiveByte t => Sys2Proof.Machine.execReceiveByte t s
  | .sensorReservedCommand t c form => Sys2Proof.Machine.execSensorReservedCommand t c form s
  | .deferredReply r low => Sys2Proof.Machine.execDeferredReply r low s
  | .interruptAcknowledge r => Sys2Proof.Machine.execInterruptAcknowledge r s
  | .special r => Sys2Proof.Machine.execSpecial r s
  | .interrupt r => Sys2Proof.Machine.execInterrupt r s
  | .purgeTc r => Sys2Proof.Machine.execPurgeTc r s
  | .ioRead r low => Sys2Proof.Machine.execIoRead r low s
  | .ioWrite r low => Sys2Proof.Machine.execIoWrite r low s
  | .memReadInvalidate r asz len => Sys2Proof.Machine.execMemReadInvalidate r asz len s
  | .memRead r asz dc len => Sys2Proof.Machine.execMemRead r asz dc len s
  | .memWrite r asz wsnp len => Sys2Proof.Machine.execMemWrite r asz wsnp len s
  | .memReadCurrent r asz len => Sys2Proof.Machine.execMemReadCurrent r asz len s
  | .cacheLineReplacement r asz wsnp => Sys2Proof.Machine.execCacheLineReplacement r asz wsnp s
  | .reservedReq000001 r low => Sys2Proof.Machine.execReservedReq000001 r low s
  | .reservedReq00100001x r x => Sys2Proof.Machine.execReservedReq00100001x r x s
  | .reservedReq0010010xx r x => Sys2Proof.Machine.execReservedReq0010010xx r x s
  | .reservedReq00100111x r x => Sys2Proof.Machine.execReservedReq00100111x r x s
  | .reservedReq01100x r x low => Sys2Proof.Machine.execReservedReq01100x r x low s
  | .reservedReq0Asz011 r asz len => Sys2Proof.Machine.execReservedReq0Asz011 r asz len s
  | .reservedReq1Asz100 r asz len => Sys2Proof.Machine.execReservedReq1Asz100 r asz len s
  | .specialNop r => Sys2Proof.Machine.execSpecialNop r s
  | .specialShutdown r => Sys2Proof.Machine.execSpecialShutdown r s
  | .specialFlush r => Sys2Proof.Machine.execSpecialFlush r s
  | .specialHalt r => Sys2Proof.Machine.execSpecialHalt r s
  | .specialSync r => Sys2Proof.Machine.execSpecialSync r s
  | .specialStopgrantAck r => Sys2Proof.Machine.execSpecialStopgrantAck r s
  | .specialXtprUpdate r => Sys2Proof.Machine.execSpecialXtprUpdate r s
  | .specialReserved r => Sys2Proof.Machine.execSpecialReserved r s
  | .fc line => Sys2Proof.Machine.execFc line s
  | .cpuid reg => Sys2Proof.Machine.execCpuid reg s
  | .eoi => Sys2Proof.Machine.execEoi s
  | .tlbPurge range => Sys2Proof.Machine.execTlbPurge range s
  | .halt => Sys2Proof.Machine.execHalt s
  | .shutdown => Sys2Proof.Machine.execShutdown s
  | .stopgrantAck => Sys2Proof.Machine.execStopgrantAck s
  | .invd => Sys2Proof.Machine.execInvd s
  | .wbinvd => Sys2Proof.Machine.execWbinvd s
  | .xtprUpdate value disable => Sys2Proof.Machine.execXtprUpdate value disable s
  | .loadStoreFetch a => Sys2Proof.Machine.execLoadStoreFetch a s

end Sys2Proof.Machine
end

