-- ==== Sys2Proof/Machine/Interrupts.lean ====
section
/-! DEFINITION. Which pending event the core takes at an instruction boundary, and the taking of it (R703, R711, R731,
R733). `Core.take` and `Core.ret` are in Machine/Ops.lean. -/

namespace Sys2Proof.Machine

/-- What the core turns to at an instruction boundary. -/
inductive Choice where
  /-- An event, with its vector where it has one. -/
  | event (e : Event) (vector : Byte)
  /-- The INT pin: its vector is still to be fetched (R703). -/
  | intPin
  deriving DecidableEq, Repr

/-- The greatest of the vectors waiting: events of Interrupt transactions are ordered by vector (R711; log 19). -/
def maxVector : List Byte → Option Byte
  | [] => none
  | v :: rest =>
    match maxVector rest with
    | none => some v
    | some w => some (if w.toNat ≤ v.toNat then v else w)

/-- The event is higher than the handler being executed: by rank, then by vector (R711, R733). -/
def outranks (e : Event) (vector : Byte) (top : Saved) : Bool :=
  decide (top.event.rank < e.rank) ||
    (e == .ext && top.event == .ext && decide (top.vector.toNat < vector.toNat))

/-- An event may be taken: outside every handler, or when it is higher than the handler, or not maskable; a maskable
one only while INT is not masked (R703, R733). -/
def mayTake (c : Core) (e : Event) (vector : Byte) : Bool :=
  !e.maskable || (!c.intMasked && (match c.saved with
    | [] => true
    | top :: _ => outranks e vector top))

/-- The first of the candidates. -/
def firstChoice : List (Bool × Choice) → Option Choice
  | [] => none
  | (ok, x) :: rest => if ok then some x else firstChoice rest

/-- The pending event of the highest priority that may be taken (R711). NMI's vector is 2 (R705); events without a
stated vector carry `free`. The vector of the INT pin is not known before its acknowledge, and how it then compares with that
of a handler is not in the source (R703, R711, R733): it counts as 0, so that INT is taken outside every handler only (DESIGN
CHOICE, log 19). -/
def nextChoice (s : State) (free : Byte) : Option Choice :=
  let c := s.core
  let p := c.pending
  let vec := (maxVector p.ext).getD 0
  firstChoice [
    (p.mca, .event .mca 0), (p.pmi, .event .pmi 0), (p.init, .event .init 0), (p.nmi, .event .nmi 2),
    (decide (0 < p.cmci), .event .cmci 0), (!p.ext.isEmpty && mayTake c .ext vec, .event .ext vec),
    (c.lint0 == .int && s.bus.lint0.seen && mayTake c .ext 0, .intPin),
    (p.local0 && mayTake c .local0 0, .event .local0 free),
    (p.local1 && mayTake c .local1 0, .event .local1 free) ]

/-- The event is no longer pending. -/
def Pending.clear (p : Pending) (e : Event) (vector : Byte) : Pending :=
  match e with
  | .mca => { p with mca := false }
  | .pmi => { p with pmi := false }
  | .init => { p with init := false }
  | .nmi => { p with nmi := false }
  | .cmci => { p with cmci := p.cmci - 1 }
  | .ext => { p with ext := p.ext.erase vector }
  | .local0 => { p with local0 := false }
  | .local1 => { p with local1 := false }

/-- The request that fetches the vector of INT: one byte, on lane 0; the address driven is not in the source (R602,
R704), and neither is the memory type on ATTR: Uncacheable (DESIGN CHOICE, log 23). -/
def intAckOut (free : Nat) : OutReq :=
  outReq (.interruptAcknowledge (ownRequest (Config.freePins free &&& ~~~1) 0 0x01 false false false)) .intAck

/-- The core takes what it turned to: an event by `take`, INT by asking for its vector first (R703, R731). -/
def takeChoice (s : State) : Choice → State
  | .event e v => s.setCore (({ s.core with pending := s.core.pending.clear e v } : Core).take e v)
  | .intPin => (s.enqueue [intAckOut (s.free + 1)]).setCore { s.core with wait := .intAck }

/-- The core at an instruction boundary takes the pending event of the highest priority, if there is one (R660 c). -/
def takeInterrupt (s : State) : State :=
  if s.coreReady then
    match nextChoice s (Config.freeByte s.free) with
    | some x => (takeChoice s x).drew 2
    | none => s
  else s

end Sys2Proof.Machine
end

