-- ==== Sys2Proof/Machine/Electrical.lean ====
section
/-! DEFINITION. The parts and their limits: the SKU table (R11), the voltage identification code (R180), the
electrical, clock and thermal limits (R210 to R221, R225, R368) and the overshoot tables (R230 to R247). A measured
value outside its limits is refused: no behaviour is specified there (R219, U9). -/

namespace Sys2Proof.Machine

/-! ### The SKU table (R11) -/

/-- Core clock in megahertz (R11). -/
def coreClockMhz : Sku → Nat
  | .f900c1p5 => 900
  | .f1000c3 => 1000
  | .f1300c3 => 1300
  | .f1400c4 => 1400
  | .f1500c6 | .f1500c4 => 1500
  | .f1600c6 | .f1600c9 => 1600
  | .f1660c6 | .f1660c9 => 1660

/-- L3 size in kilobytes (R11). -/
def l3Kbytes : Sku → Nat
  | .f900c1p5 => 1536
  | .f1000c3 | .f1300c3 => 3072
  | .f1400c4 | .f1500c4 => 4096
  | .f1500c6 | .f1600c6 | .f1660c6 => 6144
  | .f1600c9 | .f1660c9 => 9216

/-- Bus clock in megahertz (R11, R220); that of the 1.6 GHz / 9 MB part is open (D14). -/
def busClockMhz : Sku → Int
  | .f1660c6 | .f1660c9 => 333
  | .f1600c9 => if Config.bus266For1600x9 then 266 else 200
  | _ => 200

/-- Data rate in megatransfers a second: twice the bus clock, by its printed name (R11, R559). -/
def dataRateMts : Sku → Nat
  | .f1660c6 | .f1660c9 => 667
  | .f1600c9 => if Config.bus266For1600x9 then 533 else 400
  | _ => 400

/-- `N` of the bus ratio 2/N (R11, R272). -/
def ratioOf : Sku → Nat
  | .f900c1p5 => 9
  | .f1000c3 => 10
  | .f1300c3 => 13
  | .f1400c4 => 14
  | .f1500c6 | .f1500c4 => 15
  | .f1600c6 => 16
  | .f1600c9 => if Config.bus266For1600x9 then 12 else 16
  | .f1660c6 | .f1660c9 => 10

/-- The A[21:17]# code a part that reads its ratio pins accepts (R176, R776); the other parts are locked. -/
def ratioCode : Sku → Option (BitVec 5)
  | .f900c1p5 => some 0b10110
  | .f1000c3 => some 0b10101
  | .f1300c3 => some 0b10010
  | .f1400c4 => some 0b10001
  | .f1500c6 => some 0b10000
  | _ => none

/-- Thermal Design Power in watts (R211). -/
def tdpWatts : Sku → Nat
  | .f900c1p5 => 90
  | .f1000c3 => 100
  | .f1300c3 => 97
  | .f1400c4 => 91
  | .f1500c6 | .f1500c4 => 107
  | .f1600c6 | .f1600c9 | .f1660c6 | .f1660c9 => 122

/-- The maximum case temperature in degrees Celsius (R368). -/
def tcaseMax : Sku → Int
  | .f900c1p5 | .f1000c3 => 85
  | _ => 83

/-- The newer parts, which carry "INT3" and the upper temperature reference 113 (R11, R403, R406). -/
def isInt3 : Sku → Bool
  | .f1500c4 | .f1600c6 | .f1600c9 | .f1660c6 | .f1660c9 => true
  | _ => false

/-- The upper temperature reference default in degrees Celsius (R406). -/
def upperTempRef (k : Sku) : Nat := if isInt3 k then 113 else 105

/-- Symmetric agents the bus of a part admits: four at 400 MT/s, two at 533 and 667 (R630). -/
def maxAgents (k : Sku) : Nat := if busClockMhz k = 200 then 4 else 2

/-- Vcc in millivolts of a VID[4:0] code; 11111 turns the output off (R180, R262). -/
def vidMillivolts (v : BitVec 5) : Option Nat :=
  if v = 0b11111 then none else some (950 + 25 * (30 - v.toNat))

/-! ### Limits (R210 to R221, R225, R368) -/

/-- The AGTL+ input low voltage's maximum in microvolts: 0.65 V on 1.6x GHz and 1.5 GHz/4 MB parts (R213). -/
def agtlVilMax (k : Sku) : Int := if isInt3 k then 650000 else 625000
/-- The AGTL+ input high voltage's minimum in microvolts: 0.85 V on 1.6x GHz and 1.5 GHz/4 MB parts (R213). -/
def agtlVihMin (k : Sku) : Int := if isInt3 k then 850000 else 875000
/-- Clock skew in picoseconds (R220). -/
def clockSkewMax (k : Sku) : Int := if busClockMhz k = 200 then 100 else 60
/-- Clock jitter in picoseconds (R220). -/
def clockJitterMax (k : Sku) : Int := if busClockMhz k = 200 then 100 else 50
/-- The least high and low time of the clock in picoseconds (R220). -/
def clockHalfMin (k : Sku) : Int :=
  if busClockMhz k = 200 then 2250 else if busClockMhz k = 266 then 1690 else 1350
/-- The greatest high and low time of the clock in picoseconds (R220). -/
def clockHalfMax (k : Sku) : Int :=
  if busClockMhz k = 200 then 2750 else if busClockMhz k = 266 then 2060 else 1650

/-- The clock's typical period in picoseconds (R220). -/
def clockPeriodTypical (k : Sku) : Int :=
  if busClockMhz k = 200 then 5000 else if busClockMhz k = 266 then 3750 else 3000
/-- The typical pad capacitance of the AGTL+ buffers in femtofarads: 3 pF at 900 MHz and 1.0 GHz, else 1.5 pF (R213). -/
def agtlPadTypicalFf (k : Sku) : Int := if coreClockMhz k ≤ 1000 then 3000 else 1500
/-- The hysteresis on TCK in microvolts (R216, note 1). -/
def tckHysteresisUv : Int := 100000

/-- Where the system bus is terminated (R206). -/
inductive TerminationMode where
  | onDie | offDie
  deriving DecidableEq, Repr

/-- `termination_mode`; none for pins at different levels, which `platformCheck` refuses (R179, R206, U8). -/
def terminationMode (p : Platform) : Option TerminationMode :=
  if p.terma && p.termb then some .onDie else if !p.terma && !p.termb then some .offDie else none

/-- The least and the greatest termination resistance in milliohms: 45 ohm with 15 % on the die, 1 % off it (R206,
R210, note 2). -/
def rtermLimits : TerminationMode → Option Int × Option Int
  | .onDie => (some 38250, some 51750)
  | .offDie => (some 44550, some 45450)

/-- The least and the greatest value of a quantity for a part. The TAP's VOH and TDO take the maxima of notes 2 and 3 of
Table 2-7, its VIH the printed one, which lies within note 2's (R216). -/
def limits (k : Sku) (mode : TerminationMode) : Quantity → Option Int × Option Int
  | .vctermUv => (some 1182000, some 1218000)
  | .vctermAcUv => (some 1140000, some 1260000)
  | .vtapUv => (some 1182000, some 1500000)
  | .ictermMa => (none, some 7200)
  | .pwrMaxMw => (none, some 130000)
  | .pwrTdeMw => (none, some 130000)
  | .pwrTdpMw => (none, some (1000 * tdpWatts k))
  | .rtermMilliohm => rtermLimits mode
  | .vccDeviationPpm => (some (-15000), some 15000)
  | .iccPsMa => (none, some 100000)
  | .psSlewMaPerUs => (none, some 100000)
  | .psTtUaPerNs => (none, some 50000)
  | .agtlVilUv => (none, some (agtlVilMax k))
  | .agtlVihUv => (some (agtlVihMin k), none)
  | .agtlVolUv => (none, some 400000)
  | .agtlVohUv => (some 1182000, some 1218000)
  | .agtlLeakageUa => (some (-100), some 100)
  | .pwrgoodVilUv => (none, some 440000)
  | .pwrgoodVihUv => (some 875000, none)
  | .clockVihUv => (some 780000, some 1300000)
  | .clockVilUv => (some (-300000), some 500000)
  | .clockVxUv => (some 550000, some 850000)
  | .clockPadFf => (none, some 1750)
  | .tapVilUv => (some (-300000), some 500000)
  | .tapVihUv => (some 1100000, some 1570000)
  | .tapVolUv => (none, some 300000)
  | .tapVohUv => (none, some 1260000)
  | .tdoUv => (none, some 1500000)
  | .tapIolUa => (none, some 20000)
  | .tapIicUa => (none, some 690)
  | .smbus33Uv => (some 3140000, some 3470000)
  | .smbusVilUv => (some (-300000), some 990000)
  | .smbusVihUv => (some 2310000, some 3470000)
  | .smbusVolUv => (none, some 400000)
  | .smbusI33Ua => (none, some 30000)
  | .smbusIolUa => (none, some 3000)
  | .thrmalertIolUa => (none, some 6000)
  | .smbusIliUa => (none, some 10)
  | .smbusIloUa => (none, some 10)
  | .lvttlVilUv => (none, some 800000)
  | .lvttlVihUv => (some 2000000, some 3630000)
  | .lvttlVolUv => (none, some 400000)
  | .lvttlVohUv => (some 2400000, none)
  | .bclkMhz => (some (busClockMhz k), some (busClockMhz k))
  | .bclkSkewPs => (some (-clockSkewMax k), some (clockSkewMax k))
  | .bclkJitterPs => (none, some (clockJitterMax k))
  | .bclkHighPs => (some (clockHalfMin k), some (clockHalfMax k))
  | .bclkLowPs => (some (clockHalfMin k), some (clockHalfMax k))
  | .bclkRisePs => (some 333, some 667)
  | .bclkFallPs => (some 333, some 667)
  | .bclkSwingUv => (some 600000, none)
  | .smscHz => (none, some 100000)
  | .smscPeriodNs => (some 10000, none)
  | .smscHighNs => (some 4000, none)
  | .smscLowNs => (some 4700, none)
  | .smscRiseNs => (none, some 1000)
  | .smscFallNs => (none, some 300)
  | .smbusValidNs => (none, some 1000)
  | .smbusSetupNs => (some 250, none)
  | .smbusHoldNs => (some 0, none)
  | .smbusFreeNs => (some 4700, none)
  | .storageC => (some (-10), some 45)
  | .shippingC => (some (-45), some 75)
  | .vccAbsUv => (some (-100000), some 2100000)
  | .v33AbsUv => (some (-300000), some 5500000)
  | .vinSmbusAbsUv => (some (-100000), some 6000000)
  | .vinAgtlAbsUv => (some (-100000), some 1900000)
  | .vctermAbsUv => (some (-100000), some 1900000)
  | .vinTapAbsUv => (some (-100000), some 2100000)
  | .tcaseC => (some 5, some (tcaseMax k))

/-- A value within its limits: one conjunct of `env_in_spec` (R219). -/
def withinLimits (k : Sku) (mode : TerminationMode) (q : Quantity) (value : Int) : Bool :=
  (match (limits k mode q).1 with
    | some lo => decide (lo ≤ value)
    | none => true) &&
  (match (limits k mode q).2 with
    | some hi => decide (value ≤ hi)
    | none => true)

/-! ### Overshoot and undershoot (R230 to R247) -/

/-- One row of an overshoot table: the overshoot and the undershoot magnitude in millivolts, and the longest pulse in
tenths of a picosecond for the activity factors 1, 0.75, 0.5, 0.25, 0.1, 0.05 and 0.01. -/
structure PulseRow where
  overMv : Int
  underMv : Int
  durations : List Nat
  deriving DecidableEq, Repr

/-- Table 2-14 (R238). -/
def pulseTable14 : List PulseRow :=
  [ ⟨1800, -600, [83, 89, 137, 275, 688, 1376, 6863]⟩,
    ⟨1750, -550, [206, 276, 413, 827, 2067, 4139, 20680]⟩,
    ⟨1700, -500, [621, 828, 1239, 2480, 6207, 12420, 25000]⟩,
    ⟨1650, -450, [1851, 2470, 3702, 7392, 18500, 25000, 25000]⟩,
    ⟨1600, -400, [5477, 7296, 10972, 21915, 25000, 25000, 25000]⟩,
    ⟨1550, -350, [16100, 21451, 25000, 25000, 25000, 25000, 25000]⟩,
    ⟨1500, -300, [25000, 25000, 25000, 25000, 25000, 25000, 25000]⟩,
    ⟨1450, -250, [25000, 25000, 25000, 25000, 25000, 25000, 25000]⟩ ]

/-- Table 2-15 (R239). -/
def pulseTable15 : List PulseRow :=
  [ ⟨1800, -600, [83, 90, 143, 287, 717, 1431, 7169]⟩,
    ⟨1750, -550, [216, 287, 430, 861, 2157, 4313, 21552]⟩,
    ⟨1700, -500, [646, 861, 1291, 2584, 6457, 12914, 25000]⟩,
    ⟨1650, -450, [1925, 2572, 3858, 7700, 19264, 25000, 25000]⟩,
    ⟨1600, -400, [5713, 7625, 11408, 22831, 25000, 25000, 25000]⟩,
    ⟨1550, -350, [16760, 22351, 25000, 25000, 25000, 25000, 25000]⟩,
    ⟨1500, -300, [25000, 25000, 25000, 25000, 25000, 25000, 25000]⟩,
    ⟨1450, -250, [25000, 25000, 25000, 25000, 25000, 25000, 25000]⟩ ]

/-- Table 2-16 (R240). -/
def pulseTable16 : List PulseRow :=
  [ ⟨1800, -600, [32, 35, 107, 214, 538, 1074, 5371]⟩,
    ⟨1750, -550, [161, 215, 323, 647, 1619, 3230, 16161]⟩,
    ⟨1700, -500, [494, 646, 969, 1937, 4853, 9692, 18750]⟩,
    ⟨1650, -450, [1444, 1924, 2894, 5776, 14465, 18750, 18750]⟩,
    ⟨1600, -400, [4279, 5705, 8561, 17130, 18750, 18750, 18750]⟩,
    ⟨1550, -350, [12573, 16763, 18750, 18750, 18750, 18750, 18750]⟩,
    ⟨1500, -300, [18750, 18750, 18750, 18750, 18750, 18750, 18750]⟩,
    ⟨1450, -250, [18750, 18750, 18750, 18750, 18750, 18750, 18750]⟩ ]

/-- Table 2-17 (R241). -/
def pulseTable17 : List PulseRow :=
  [ ⟨1800, -600, [50, 54, 86, 172, 423, 858, 4297]⟩,
    ⟨1750, -550, [129, 172, 258, 517, 1292, 2585, 12953]⟩,
    ⟨1700, -500, [387, 516, 775, 1553, 3882, 7748, 15000]⟩,
    ⟨1650, -450, [1158, 1544, 2311, 4629, 11564, 15000, 15000]⟩,
    ⟨1600, -400, [3429, 4562, 6845, 13728, 15000, 15000, 15000]⟩,
    ⟨1550, -350, [10065, 13411, 15000, 15000, 15000, 15000, 15000]⟩,
    ⟨1500, -300, [15000, 15000, 15000, 15000, 15000, 15000, 15000]⟩,
    ⟨1450, -250, [15000, 15000, 15000, 15000, 15000, 15000, 15000]⟩ ]

/-- Table 2-18 (R243). -/
def pulseTable18 : List PulseRow :=
  [ ⟨1800, -600, [493, 658, 985, 1968, 4923, 9852, 49228]⟩,
    ⟨1750, -550, [1485, 1977, 2966, 5933, 14834, 29659, 50000]⟩,
    ⟨1700, -500, [4444, 5932, 8898, 17798, 44448, 50000, 50000]⟩,
    ⟨1650, -450, [13290, 17670, 26529, 50000, 50000, 50000, 50000]⟩,
    ⟨1600, -400, [39270, 50000, 50000, 50000, 50000, 50000, 50000]⟩,
    ⟨1550, -350, [50000, 50000, 50000, 50000, 50000, 50000, 50000]⟩,
    ⟨1500, -300, [50000, 50000, 50000, 50000, 50000, 50000, 50000]⟩ ]

/-- Table 2-19 (R244). -/
def pulseTable19 : List PulseRow :=
  [ ⟨1800, -600, [513, 685, 1026, 2054, 5129, 10258, 50000]⟩,
    ⟨1750, -550, [1547, 2059, 3088, 6192, 15458, 30902, 50000]⟩,
    ⟨1700, -500, [4640, 6191, 9265, 18536, 46313, 50000, 50000]⟩,
    ⟨1650, -450, [13836, 18410, 27641, 50000, 50000, 50000, 50000]⟩,
    ⟨1600, -400, [40947, 50000, 50000, 50000, 50000, 50000, 50000]⟩,
    ⟨1550, -350, [50000, 50000, 50000, 50000, 50000, 50000, 50000]⟩,
    ⟨1500, -300, [50000, 50000, 50000, 50000, 50000, 50000, 50000]⟩ ]

/-- Table 2-20 (R245). -/
def pulseTable20 : List PulseRow :=
  [ ⟨1800, -600, [385, 513, 770, 1541, 3853, 7690, 37500]⟩,
    ⟨1750, -550, [1161, 1548, 2317, 4641, 11593, 23177, 37500]⟩,
    ⟨1700, -500, [3473, 4643, 6945, 13895, 34738, 37500, 37500]⟩,
    ⟨1650, -450, [10365, 13801, 20731, 37500, 37500, 37500, 37500]⟩,
    ⟨1600, -400, [30710, 37500, 37500, 37500, 37500, 37500, 37500]⟩,
    ⟨1550, -350, [37500, 37500, 37500, 37500, 37500, 37500, 37500]⟩,
    ⟨1500, -300, [37500, 37500, 37500, 37500, 37500, 37500, 37500]⟩ ]

/-- Table 2-21 (R246). -/
def pulseTable21 : List PulseRow :=
  [ ⟨1800, -600, [308, 411, 615, 1231, 3079, 6167, 30000]⟩,
    ⟨1750, -550, [928, 1237, 1855, 3706, 9291, 18546, 30000]⟩,
    ⟨1700, -500, [2780, 3714, 5568, 11136, 27783, 30000, 30000]⟩,
    ⟨1650, -450, [8288, 11056, 16585, 30000, 30000, 30000, 30000]⟩,
    ⟨1600, -400, [24567, 30000, 30000, 30000, 30000, 30000, 30000]⟩,
    ⟨1550, -350, [30000, 30000, 30000, 30000, 30000, 30000, 30000]⟩,
    ⟨1500, -300, [30000, 30000, 30000, 30000, 30000, 30000, 30000]⟩ ]

/-- The table that applies to a part and a signal group (R234, R247). -/
def pulseTable (k : Sku) (wiredOr : Bool) : List PulseRow :=
  match k with
  | .f900c1p5 | .f1000c3 | .f1300c3 | .f1400c4 | .f1500c6 => if wiredOr then pulseTable18 else pulseTable14
  | .f1500c4 | .f1600c6 => if wiredOr then pulseTable19 else pulseTable15
  | .f1600c9 =>
    if Config.bus266For1600x9 then (if wiredOr then pulseTable20 else pulseTable16)
    else (if wiredOr then pulseTable19 else pulseTable15)
  | .f1660c6 | .f1660c9 => if wiredOr then pulseTable21 else pulseTable17

/-- Whether a row's magnitude is at least the one measured. -/
def PulseRow.covers (r : PulseRow) (isUnder : Bool) (magnitude : Int) : Bool :=
  if isUnder then decide (r.underMv ≤ magnitude) else decide (magnitude ≤ r.overMv)

/-- How long the pulse of an event may last, in tenths of a picosecond, in a column of its table: the pulse of the smallest
tabled magnitude that covers it; `none` where no row does (R231). The tables give limits for the tabled magnitudes only:
that one between two rows has the limit of the greater is DESIGN CHOICE, log 35. An event smaller than every row has no
limit stated: `some none`. -/
def pulseLimit (k : Sku) (e : Overshoot) (af : Fin 7) : Option (Option Nat) :=
  match ((pulseTable k e.wiredOr).filter (·.covers e.isUnder e.magnitude)).getLast? with
  | none => none
  | some r =>
    if (pulseTable k e.wiredOr).all (·.covers e.isUnder e.magnitude) &&
        !(r.overMv == e.magnitude || r.underMv == e.magnitude) then some none
    else some (some (r.durations.getD af.val 0))

/-- An event within its table in a column: never beyond the absolute maxima, its pulse shorter than the limit (R231,
R234). -/
def overshootOk (k : Sku) (e : Overshoot) (af : Fin 7) : Bool :=
  match pulseLimit k e af with
  | none => false
  | some none => true
  | some (some limit) => decide (e.duration < limit)

/-- An event just meets its own limit: it is the longest the tables' unit admits (R233; that the unit decides is DESIGN
CHOICE, log 35). -/
def overshootJustMeets (k : Sku) (e : Overshoot) : Bool :=
  match pulseLimit k e e.af with
  | some (some limit) => decide (limit ≤ e.duration + 1)
  | _ => false

/-- Two events of one kind and one magnitude: one line of the procedure (R234, R236). -/
def sameMagnitude (x y : Overshoot) : Bool :=
  x.wiredOr == y.wiredOr && x.isUnder == y.isUnder && x.magnitude == y.magnitude

/-- The events of the whole system meet the specification (R233, R236): each its own activity factor's limit; where
several of one direction occur (overshoots and undershoots are analysed apart, R234), each also the limit for the
activity factor 1, and none of them may just meet its limit. R233 has no other event beside one of activity factor 1, R236
admits several that meet its limits: R236 is followed (DESIGN CHOICE, log 35). -/
def overshootsOk (k : Sku) (es : List Overshoot) : Bool :=
  es.all fun e =>
    overshootOk k e e.af &&
      (es.all (fun x => x.isUnder != e.isUnder || sameMagnitude x e) ||
        (overshootOk k e 0 && !overshootJustMeets k e))

end Sys2Proof.Machine
end

