-- ==== Sys2Proof/Machine/Reset.lean ====
section
/-! DEFINITION. RESET# and PWRGOOD (R770 to R785): what the assertion does, what the platform must keep, what is sampled
at the release. BINIT# is in Machine/Bus.lean, the SMBus devices' own reset in Machine/Sensor.lean. -/

namespace Sys2Proof.Machine

/-- The core while RESET# is asserted: stopped, the items of R779 at their values, every other register unspecified, a free
value, the value of the last CPUID read among them (R90, U25). No rule but that of `nmi_pending` gives the events pending,
the stack of saved records, the wait and the results not yet taken a reset value: all are lost (DESIGN CHOICE, log 1). -/
def Core.inReset (free : Nat) : Core :=
  { Core.reset with
    gr := Config.freeGr free, fr := Config.freeFr (free + 1), pr := Config.freePr (free + 2),
    pc := Config.free64 (free + 3), run := .stopped,
    xtprValue := (Config.freeByte (free + 4)).extractLsb' 0 4, xtprDisable := Config.freeBool (free + 5),
    intMasked := Config.freeBool (free + 6),
    tlb := (Config.freeRanges (free + 7)).map fun x => { first := x.1, last := x.2 },
    cpuidOut := Config.free64 (free + 8) }

/-- The core and the bus agent while RESET# is asserted: the items of R779 at their values, the caches without their modified
lines, every output deasserted, the power-on configuration and the identity to be sampled at the release (R770, R774, R90).
Two points the source leaves open: the requests handed over and not yet issued are dropped with the queues (R50; DESIGN
CHOICE, log 18), and LINT0, LINT1, INIT# and PMI# count as long deasserted, so that one held asserted over the reset is a
fresh edge after it (R90; DESIGN CHOICE, log 32). -/
def heldInReset (s : State) : State :=
  { s with
    core := Core.inReset s.free,
    bus := { Bus.reset with poc := s.bus.poc, arbId := s.bus.arbId, inReset := true },
    special := none, free := s.free + 9 }

/-- RESET# sampled asserted (R770, R774, R779, R90); the SMBus devices keep everything (R782). Whether RESET# enables ETM
again after firmware has disabled it is not in the source: it does not (DESIGN CHOICE, log 37). The power state stays as it
is, after a trip that of a trip shutdown, of which the source says nothing (R87; DESIGN CHOICE, log 24). Sampled again while
asserted, RESET# does not forget that PWRGOOD was low in the reset in progress (R771, R772). -/
def resetAssert (s : State) : State :=
  { heldInReset s with
    thermal := { s.thermal with
      mode := .normal, belowTime := 0, thrmtrip := false,
      afterTrip := s.thermal.afterTrip || s.thermal.mode == .tripped },
    platform := { s.platform with pwrgoodLow := (s.bus.inReset && s.platform.pwrgoodLow) || !s.platform.pwrgood } }

/-- The timing a release of RESET# must keep (R771, R772, R773): one millisecond, from PWRGOOD in a cold reset and from
RESET# in a warm one, the ratio pins held, 4 clocks of set-up, 2 to 3 of hold of every configuration pin, Ta of 1.15 ns,
power on and PWRGOOD high, all the time in a warm reset. -/
def resetTimingOk (s : State) (r : ResetRelease) : Bool :=
  s.powered && s.platform.pwrgood && r.cold == s.platform.pwrgoodLow && decide (1000000 ≤ r.heldNs) && r.ratioHeld &&
    decide (4 ≤ r.setupClocks) && decide (2 ≤ r.holdClocks) && decide (r.holdClocks ≤ 3) &&
    decide (2 ≤ r.ratioHoldClocks) && decide (r.ratioHoldClocks ≤ 3) && decide (115 ≤ r.taCentiNs)

/-- Memory holds the bytes `bs` from an address on. -/
def Memory.holds (m : Memory) (a : Nat) : List Byte → Bool
  | [] => true
  | b :: rest => m.read a == b && Memory.holds m (a + 1) rest

/-- The platform's memory holds PAL code at RESET_VECTOR (R111): at least one byte of it (DESIGN CHOICE, log 38). -/
def palPresent (s : State) (r : ResetRelease) : Bool :=
  !r.pal.isEmpty && s.mem.holds Config.resetVector.toNat r.pal

/-- The ratio pins carry the part's code, where the part reads them (R776). -/
def ratioOk (k : Sku) (pins : BitVec 5) : Bool :=
  match ratioCode k with
  | some c => pins == c
  | none => true

/-- The arbitration ID by the one BR pin sampled asserted: Table A-6 (R177, R631). -/
def identityOf (br : BitVec 4) : Option (BitVec 2) :=
  if br = 0b0001 then some 0
  else if br = 0b1000 then some 1
  else if br = 0b0100 then some 2
  else if br = 0b0010 then some 3
  else none

/-- `agent_id`: 0, 2, 4, 6 (R46, R177). -/
def agentIdOf (arbId : BitVec 2) : Nat := 2 * arbId.toNat

/-- The processor out of reset: configured, and executing at the reset vector unless its outputs are tristated; the
configuration window is open as long as any configuration pin is held (R771, R775 to R781). -/
def released (s : State) (r : ResetRelease) (arbId : BitVec 2) : State :=
  { s with
    core := { s.core with pc := Config.resetPc, run := if r.opts.outputTristate then .stopped else .running },
    bus := { s.bus with poc := { ratio := ratioOf s.platform.sku, opts := r.opts }, arbId, inReset := false,
                         configClocks := max r.holdClocks r.ratioHoldClocks },
    thermal := { s.thermal with afterTrip := false } }

/-- RESET# is released (R770): with RESET# not asserted there is no edge. The thermal monitor evaluates the die temperature
at once (R360). -/
def resetRelease (r : ResetRelease) (s : State) : Host.Outcome State Fault Refusal :=
  if !s.bus.inReset then .next s
  else if !resetTimingOk s r then .refused .resetTiming
  else if !ratioOk s.platform.sku r.ratioPins then .refused .busRatio
  else if s.thermal.afterTrip && !decide (r.tcase < tcaseMax s.platform.sku) then .refused .hotReset
  else if !palPresent s r then .refused .noPalCode
  else match identityOf r.br with
    | none => .refused .identity
    | some a => .next (thermalStep 0 (released s r a))

/-- PWRGOOD changes: it may be asserted only while RESET# is, and with power on (R549, R771). What its fall leaves outside
RESET# is not in the source but that the processor is held off: its state is kept, and no clock, step of the core or purge
under way moves anything of it (DESIGN CHOICE, log 18); the thermal monitor goes on (log 25). -/
def setPwrgood (level : Bool) (s : State) : Host.Outcome State Fault Refusal :=
  if level && !s.platform.pwrgood && !(s.bus.inReset && s.powered) then .refused .resetTiming
  else .next { s with platform := { s.platform with pwrgood := level, pwrgoodLow := s.platform.pwrgoodLow || !level } }

end Sys2Proof.Machine
end

