-- ==== Sys2Proof/Machine/Platform.lean ====
section
/-! DEFINITION. The platform around the package: its straps and its neighbours (R13, R14, R206, R385, R630), the power
pod's load steps (R266), measured quantities (R219). -/

namespace Sys2Proof.Machine

/-- The load steps of Table 2-24: A to F, and the way out of a thermal trip shutdown, which is off (R87, R266). -/
def loadStep : PowerState → PowerState → Bool
  | .off, .first => true
  | .first, .second => true
  | .second, .third => true
  | .third, .second => true
  | .second, .first => true
  | .second, .normal => true
  | .normal, .second => true
  | .thermalTripShutdown, .off => true
  | .first, .off => true
  | _, _ => false

/-- A load step; one that the table does not have is outside the specification (R266, U9). Power comes on only while PWRGOOD
is deasserted (R549, R771); with its loss execution ends and the processor's data is gone (R812). Lost while RESET# is asserted
it leaves the items of R779 at the values that rule gives them after the reset, and every other register unspecified anew
(`heldInReset`). What else the loss of power leaves of the thermal monitor and of the bus agent is not in the source: ETM that
firmware has disabled through PAL stays disabled (R361; DESIGN CHOICE, log 37), and the thermal state, the time below the ETM
threshold, the latch of THRMTRIP#, the power-on configuration, the arbitration ID and the levels last sampled are kept (R812;
DESIGN CHOICE, log 18). The thermal monitor evaluates the die temperature when it gets power (R360). -/
def powerStep (next : PowerState) (s : State) : Host.Outcome State Fault Refusal :=
  if !loadStep s.platform.powerState next then .refused .outOfSpec
  else if s.platform.powerState == .off && s.platform.pwrgood then .refused .resetTiming
  else
    let u := if next = .off then (if s.bus.inReset then heldInReset s else dataLost s) else s
    .next (thermalStep 0 { u with platform := { u.platform with powerState := next } })

/-- A measured quantity within its limits changes nothing; outside them no behaviour is specified (R219, U9). The
termination mode chooses the limits of the termination resistance (R206). -/
def measured (q : Quantity) (value : Int) (s : State) : Host.Outcome State Fault Refusal :=
  match terminationMode s.platform with
  | none => .refused .termination
  | some mode => if withinLimits s.platform.sku mode q value then .next s else .refused .outOfSpec

/-- An overshoot or undershoot is recorded; the events so far must meet the specification together (R230 to R247). -/
def overshootSeen (e : Overshoot) (s : State) : Host.Outcome State Fault Refusal :=
  if overshootsOk s.platform.sku (e :: s.platform.overshoots) then
    .next { s with platform := { s.platform with overshoots := e :: s.platform.overshoots } }
  else .refused .outOfSpec

/-- This package as one of the packages of the platform. -/
def Platform.asNeighbour (p : Platform) : Neighbour :=
  { sma0 := p.sma0, sma1 := p.sma1, sma2 := p.sma2, sku := p.sku, smbus := 0, systemBus := true }

/-- Two packages on one SMBus whose memories or whose sensors answer at one address (R385). -/
def sharesStraps (x y : Neighbour) : Bool :=
  x.smbus == y.smbus && ((x.sma0 == y.sma0 && x.sma1 == y.sma1) || (x.sma2 == y.sma2 && x.sma1 == y.sma1))

/-- Some two of the packages do. -/
def anyShareStraps : List Neighbour → Bool
  | [] => false
  | x :: rest => rest.any (sharesStraps x) || anyShareStraps rest

/-- How many symmetric agents the system bus has: this processor and its neighbours on it (R630). -/
def agentsWith (others : List Neighbour) : Nat := (others.filter (·.systemBus)).length + 1

/-- The platform as it is strapped, with the other packages on its buses (R14, R206, R207, R385, R630). -/
def platformCheck (terma termb : Bool) (tuner1 tuner2 : Nat) (others : List Neighbour) (s : State) :
    Host.Outcome State Fault Refusal :=
  if terma != termb then .refused .termination
  else if anyShareStraps (s.platform.asNeighbour :: others) then .refused .sharedStraps
  else if others.any (fun o => o.systemBus && o.sku != s.platform.sku) then .refused .mixedParts
  else if maxAgents s.platform.sku < agentsWith others then .refused .agentCount
  else .next { s with platform := { s.platform with terma, termb, tuner1, tuner2, nAgents := agentsWith others } }

/-- The SMWP pin is driven (R63, R411). -/
def setSmwp (level : Bool) (s : State) : State := { s with platform := { s.platform with smwp := level } }

/-- Another sensor's alert on the SMBus (R447). -/
def setAraRival (t : Option SmbAddr) (s : State) : State := { s with platform := { s.platform with araRival := t } }

end Sys2Proof.Machine
end

