-- ==== Sys2Proof/Machine/Agents.lean ====
section
/-! DEFINITION. The agents of a package (R15) and what each does with the event that is its turn: the SMBus devices with
a packet, the bus agent with a clock, the core with an instruction or an internal step, the sensor's converter and the
thermal monitor with time, the platform with a level. The order of the agents is the script's (`State.inputs`). -/

namespace Sys2Proof.Machine

/-! ### The SMBus -/

/-- What a decoded packet does. A sequence that forms no packet, sent to a device of the package, has no behaviour in
the source (R417, R422, U10): any of its address bytes may be the device's; sent elsewhere it is none of the package's. -/
def runPacket (d : Decoded) (s : State) : Host.Outcome State Fault Refusal :=
  match d with
  | .instr i => exec i s
  | .loadAddress sel da => .next (loadAddressPacket sel da s)
  | .probe a => .next (probePacket a s)
  | .abandonedRead t c x => abandonedReadPacket t c x s
  | .reservedAddress _ => .refused .reservedAddress
  | .badPacket [] => .refused .malformedPacket
  | .badPacket (b :: rest) =>
    if (b :: rest).any (addressesPackage s) then .refused .malformedPacket else .next s.unanswered
  | .noRow _ => .refused .noRow
  | .notCore => .refused .malformedPacket

/-! ### The bus clock -/

/-- A clock in which BINIT# is sampled and observed: the bus agent is reset, the core goes on (R642, R710). BNR# and BPRI#
are sampled as in every clock (R52). A core that waits for a TLB purge or an interrupt acknowledge whose transaction is
destroyed goes on waiting until RESET#: what becomes of it is not in the source (DESIGN CHOICE, log 18). Nothing else is
sampled in this clock, for the source gives no order: TND# among it, so that a core whose Purge TC has completed goes on
waiting for TND# to the next clock, and an ADS#, an IDS#, a snoop result, a response, data (R642, R664, R710; DESIGN CHOICE,
log 18); and one clock of the configuration window passes as in every clock (log 18). A purge that this
processor carries out for another goes on, TND# with it (R42; DESIGN CHOICE, log 18). Whether the core also takes a machine
check on BINIT# is not stated: it takes none (R710; DESIGN CHOICE, log 18). -/
def binitClock (q : Pins) (s : State) : State :=
  let s := sampleBerr q (samplePins q s)
  { s with bus := { s.bus.resetFsm with stalled := q.bnr, bpriSeen := q.bpri,
                                        configClocks := s.bus.configClocks - 1 } }

/-- The request phase of a clock, on the state `s` all other phases have left: clock b is decoded with the latched
clock a and run; an ADS# latches clock a (R160, R164, R622). -/
def requestPhase (q : Pins) (s : State) : Host.Outcome State Fault Refusal :=
  match s.bus.latchA with
  | some a =>
    match decode s.platform.cells s.platform.smwp (.request a { pins := q.a, req := q.req }) with
    | .instr i => exec i { s with bus := { s.bus with latchA := none } }
    | _ => .refused .noRow
  | none =>
    .next { s with bus := { s.bus with latchA := if q.ads then some { pins := q.a, req := q.req } else none } }

/-- One bus clock. A BINIT# that is observed goes before a parity error of the same clock, which then has no consequence:
the source gives no order (R508, R710; DESIGN CHOICE, log 27). Two drivers of one signal (U11) and a parity error of an agent
that may not drive BERR# (U14) are outside the source. Where it may, BERR# is all that is stated: the request, response or
deferred phase goes on with the values sampled (R720; DESIGN CHOICE, log 27). -/
def runClock (p : Pins) (s : State) : Host.Outcome State Fault Refusal :=
  let q := merged s p
  if !s.onBus then .next s
  else if contention s p then .refused .contention
  else if q.binit && s.bus.poc.opts.binitObserve then .next (binitClock q s)
  else if parityError s q && !s.bus.poc.opts.berrOnBus then .refused .parity
  else requestPhase q (clockPrologue p s)

/-! ### The core -/

/-- One of the named instructions, when the core can execute (R660 d). -/
def runCore (i : Instr) (s : State) : Host.Outcome State Fault Refusal :=
  match decode s.platform.cells s.platform.smwp (.named i) with
  | .instr j => if s.coreReady then exec j s else .next s
  | _ => .next s

/-! ### Every event -/

/-- What one event does. -/
def runInput (x : Input) (s : State) : Host.Outcome State Fault Refusal :=
  match x with
  | .packet items => runPacket (decode s.platform.cells s.platform.smwp (.packet items)) s
  | .packetSmwpChange _ => .refused .smwpChanged
  | .clock p => runClock p s
  | .core i => runCore i s
  | .coreAct a => .next (coreAct a s)
  | .coreInterrupt => .next (takeInterrupt s)
  | .purgeDone => .next (purgeDone s)
  | .sensorTime us error => .next (sensorTime us error s)
  | .diode isOpen => .next (sensorDiode isOpen s)
  | .sensorRate mill => .next (sensorRate mill s)
  | .dieTemp t => .next (setDieTemp t s)
  | .thermal us => .next (thermalStep us s)
  | .resetAssert => .next (resetAssert s)
  | .resetRelease r => resetRelease r s
  | .pwrgood level => setPwrgood level s
  | .smbusPower on busy => .next (smbusPower on busy s)
  | .smwp level => .next (setSmwp level s)
  | .araRival t => .next (setAraRival t s)
  | .power next => powerStep next s
  | .measure q value => measured q value s
  | .overshoot e => overshootSeen e s
  | .platformCheck terma termb tuner1 tuner2 others => platformCheck terma termb tuner1 tuner2 others s

/-- The next thing that happens: the code of a special transaction just observed is read before anything else (R164);
then the script's next event; an empty script is an idle machine. -/
def runNext (s : State) : Host.Outcome State Fault Refusal :=
  match s.special with
  | some r =>
    match decode s.platform.cells s.platform.smwp (.special r) with
    | .instr i => exec i { s with special := none }
    | _ => .refused .reservedSpecial
  | none =>
    match s.inputs with
    | [] => .next s
    | x :: rest => runInput x { s with inputs := rest }

/-! ### Placing an instruction -/

/-- A clock in which no other agent drives anything. -/
def Pins.idle : Pins :=
  { ads := false, a := 0, req := 0, ap := none, rp := false, br := 0, bpri := false, bnr := false,
    snoopPhase := false, hit := false, hitm := false, defer := false, gseq := false, rs := 0, rsp := false,
    trdy := false, dbsy := false, drdy := false, sbsy := false, d := none, ecc := #v[.ok, .ok, .ok, .ok],
    ids := false, id := 0, berr := false,
    binit := false, tnd := false, lint0 := false, lint1 := false, init := false, pmi := false, shortSeen := 0,
    holdIssue := false, pick := 0, holdBus := false, dropBreq := false, snoopStall := false, holdData := false, bilLine := false,
    a20m := false, ignne := false, lock := false, bpm := 0 }

/-- Clock b of a request of another agent, with its parity. -/
def clockBPinsOf (b : ClockWord) : Pins :=
  { Pins.idle with a := b.pins, req := b.req, rp := requestParity false b.req }

/-- The state in which the next step fetches `f`: a packet as the host's next, a request with its clock a latched and
its clock b next, a special transaction whose code is next, a core instruction as the core's next. -/
def placeFetch (s : State) : Fetch → State
  | .packet items => { s with special := none, inputs := .packet items :: s.inputs }
  | .request a b =>
    { s with special := none, bus := { s.bus with latchA := some a }, inputs := .clock (clockBPinsOf b) :: s.inputs }
  | .special r => { s with special := some r }
  | .named i => { s with special := none, inputs := .core i :: s.inputs }

end Sys2Proof.Machine
end

