-- ==== Sys2Proof/Machine/Step.lean ====
section
/-! DEFINITION. The step of the machine and the placing of a table word where it is fetched. -/

namespace Sys2Proof.Machine

/-- One step: the next thing that happens, whichever agent it happens to. -/
def step (s : State) : Host.Outcome State Fault Refusal := runNext s

/-- The state in which the next step fetches the table word `w` of `nbits` bits. -/
def State.withFetchWord (s : State) (nbits w : Nat) : State := placeFetch s (tableFetch nbits w)

end Sys2Proof.Machine
end

