-- ==== Sys2Proof/Machine/Pinout.lean ====
section
/-! DEFINITION. The pins of the package (R300 to R310): each one's name, place, signal and direction, as the tables by
name and by location give them. No operation reads them: they fix what of the package the environment can see. -/

namespace Sys2Proof.Machine

/-- The column "Input/Output", from the processor's side (R302). -/
inductive PinDirection where
  | input | output | both | blank
  deriving DecidableEq, Repr

/-- One pin: its name, the letter and the number of its place, the bus signal name, its direction (R300, R301). -/
structure Pin where
  name : String
  letter : String
  number : Nat
  signal : String
  direction : PinDirection
  deriving DecidableEq, Repr

/-- Signal pins, part 1 (R305). -/
def signalPins1 : List Pin :=
  [ ⟨"3.3V", "B", 2, "", .input⟩,
    ⟨"A003#", "V", 6, "Aa03#/EXF0#", .both⟩,
    ⟨"A004#", "V", 2, "Aa04#/EXF1#", .both⟩,
    ⟨"A005#", "U", 3, "Aa05#/EXF2#", .both⟩,
    ⟨"A006#", "W", 3, "Aa06#/EXF3#", .both⟩,
    ⟨"A007#", "Y", 2, "Aa07#/EXF4#", .both⟩,
    ⟨"A008#", "Y", 6, "Aa08#/BE0#", .both⟩,
    ⟨"A009#", "U", 7, "Aa09#/BE1#", .both⟩,
    ⟨"A010#", "V", 4, "Aa10#/BE2#", .both⟩,
    ⟨"A011#", "AA", 5, "Aa11#/BE3#", .both⟩,
    ⟨"A012#", "W", 5, "Aa12#/BE4#", .both⟩,
    ⟨"A013#", "Y", 4, "Aa13#/BE5#", .both⟩,
    ⟨"A014#", "W", 7, "Aa14#/BE6#", .both⟩,
    ⟨"A015#", "V", 8, "Aa15#/BE7#", .both⟩,
    ⟨"A016#", "U", 13, "Aa16#/DID0#", .both⟩,
    ⟨"A017#", "Y", 8, "Aa17#/DID1#", .both⟩,
    ⟨"A018#", "U", 9, "Aa18#/DID2#", .both⟩,
    ⟨"A019#", "V", 12, "Aa19#/DID3#", .both⟩,
    ⟨"A020#", "V", 10, "Aa20#/DID4#", .both⟩,
    ⟨"A021#", "W", 9, "Aa21#/DID5#", .both⟩,
    ⟨"A022#", "W", 13, "Aa22#/DID6#", .both⟩,
    ⟨"A023#", "AA", 11, "Aa23#/DID7#", .both⟩,
    ⟨"A024#", "Y", 10, "Aa24#/DID8#", .both⟩,
    ⟨"A025#", "Y", 12, "Aa25#/DID9#", .both⟩,
    ⟨"A026#", "W", 11, "Aa26#/Ab26#", .both⟩,
    ⟨"A027#", "U", 19, "Aa27#/xTPRValue0#", .both⟩,
    ⟨"A028#", "U", 15, "Aa28#/xTPRValue1#", .both⟩,
    ⟨"A029#", "V", 18, "Aa29#/xTPRValue2#", .both⟩,
    ⟨"A030#", "W", 19, "Aa30#/xTPRValue3#", .both⟩,
    ⟨"A031#", "V", 14, "Aa31#/xTPRDisable#", .both⟩,
    ⟨"A032#", "W", 17, "Aa32#/ATTR0#", .both⟩,
    ⟨"A033#", "AA", 17, "Aa33#/ATTR1#", .both⟩,
    ⟨"A034#", "Y", 14, "Aa34#/ATTR2#", .both⟩ ]

/-- Signal pins, part 2 (R305). -/
def signalPins2 : List Pin :=
  [ ⟨"A035#", "Y", 18, "Aa35#/ATTR3#", .both⟩,
    ⟨"A036#", "Y", 16, "Aa36#/Ab36#", .both⟩,
    ⟨"A037#", "W", 15, "Aa37#/Ab37#", .both⟩,
    ⟨"A038#", "V", 16, "Aa38#/Ab38#", .both⟩,
    ⟨"A039#", "Y", 20, "Aa39#/Ab39#", .both⟩,
    ⟨"A040#", "V", 24, "Aa40#/Ab40#", .both⟩,
    ⟨"A041#", "W", 25, "Aa41#/Ab41#", .both⟩,
    ⟨"A042#", "U", 23, "Aa42#/Ab42#", .both⟩,
    ⟨"A043#", "Y", 24, "Aa43#/Ab43#", .both⟩,
    ⟨"A044#", "W", 21, "Aa44#/Ab44#", .both⟩,
    ⟨"A045#", "V", 20, "Aa45#/Ab45#", .both⟩,
    ⟨"A046#", "W", 23, "Aa46#/Ab46#", .both⟩,
    ⟨"A047#", "V", 22, "Aa47#/Ab47#", .both⟩,
    ⟨"A048#", "U", 21, "Aa48#/Ab48#", .both⟩,
    ⟨"A049#", "Y", 22, "Aa49#/Ab49#", .both⟩,
    ⟨"A20M#", "AH", 23, "A20M#", .input⟩,
    ⟨"ADS#", "AB", 20, "ADS#", .both⟩,
    ⟨"AP0#", "AA", 25, "AP0#", .both⟩,
    ⟨"AP1#", "AA", 23, "AP1#", .both⟩,
    ⟨"BCLKn", "AH", 13, "BCLKN", .input⟩,
    ⟨"BCLKp", "AG", 13, "BCLK", .input⟩,
    ⟨"BERR#", "AB", 22, "BERR#", .both⟩,
    ⟨"BINIT#", "AA", 15, "BINIT#", .both⟩,
    ⟨"BNR#", "U", 17, "BNR#", .both⟩,
    ⟨"BPM0#", "AD", 22, "BPM0#", .both⟩,
    ⟨"BPM1#", "AC", 25, "BPM1#", .both⟩,
    ⟨"BPM2#", "AE", 23, "BPM2#", .both⟩,
    ⟨"BPM3#", "AC", 23, "BPM3#", .both⟩,
    ⟨"BPM4#", "AD", 24, "BPM4#", .both⟩,
    ⟨"BPM5#", "AB", 24, "BPM5#", .both⟩,
    ⟨"BPRI#", "AE", 19, "BPRI#", .input⟩,
    ⟨"BR0#", "AF", 16, "BREQ0#", .both⟩,
    ⟨"BR1#", "AD", 16, "BREQ1#", .input⟩ ]

/-- Signal pins, part 3 (R305). -/
def signalPins3 : List Pin :=
  [ ⟨"BR2#", "AB", 18, "BREQ2#", .input⟩,
    ⟨"BR3#", "AF", 18, "BREQ3#", .input⟩,
    ⟨"CPUPRES#", "AG", 15, "CPUPRES#", .output⟩,
    ⟨"D000#", "C", 7, "D0#", .both⟩,
    ⟨"D001#", "E", 3, "D1#", .both⟩,
    ⟨"D002#", "C", 5, "D2#", .both⟩,
    ⟨"D003#", "D", 4, "D3#", .both⟩,
    ⟨"D004#", "D", 2, "D4#", .both⟩,
    ⟨"D005#", "D", 6, "D5#", .both⟩,
    ⟨"D006#", "F", 6, "D6#", .both⟩,
    ⟨"D007#", "F", 2, "D7#", .both⟩,
    ⟨"D008#", "G", 5, "D8#", .both⟩,
    ⟨"D009#", "H", 6, "D9#", .both⟩,
    ⟨"D010#", "E", 7, "D10#", .both⟩,
    ⟨"D011#", "H", 2, "D11#", .both⟩,
    ⟨"D012#", "H", 4, "D12#", .both⟩,
    ⟨"D013#", "J", 3, "D13#", .both⟩,
    ⟨"D014#", "G", 3, "D14#", .both⟩,
    ⟨"D015#", "G", 7, "D15#", .both⟩,
    ⟨"D016#", "K", 4, "D16#", .both⟩,
    ⟨"D017#", "L", 3, "D17#", .both⟩,
    ⟨"D018#", "K", 6, "D18#", .both⟩,
    ⟨"D019#", "L", 5, "D19#", .both⟩,
    ⟨"D020#", "M", 2, "D20#", .both⟩,
    ⟨"D021#", "L", 7, "D21#", .both⟩,
    ⟨"D022#", "N", 7, "D22#", .both⟩,
    ⟨"D023#", "N", 3, "D23#", .both⟩,
    ⟨"D024#", "P", 4, "D24#", .both⟩,
    ⟨"D025#", "R", 3, "D25#", .both⟩,
    ⟨"D026#", "P", 6, "D26#", .both⟩,
    ⟨"D027#", "P", 2, "D27#", .both⟩,
    ⟨"D028#", "M", 6, "D28#", .both⟩,
    ⟨"D029#", "R", 5, "D29#", .both⟩ ]

/-- Signal pins, part 4 (R305). -/
def signalPins4 : List Pin :=
  [ ⟨"D030#", "T", 2, "D30#", .both⟩,
    ⟨"D031#", "R", 7, "D31#", .both⟩,
    ⟨"D032#", "H", 10, "D32#", .both⟩,
    ⟨"D033#", "C", 11, "D33#", .both⟩,
    ⟨"D034#", "D", 10, "D34#", .both⟩,
    ⟨"D035#", "C", 9, "D35#", .both⟩,
    ⟨"D036#", "D", 12, "D36#", .both⟩,
    ⟨"D037#", "D", 8, "D37#", .both⟩,
    ⟨"D038#", "G", 9, "D38#", .both⟩,
    ⟨"D039#", "E", 13, "D39#", .both⟩,
    ⟨"D040#", "E", 9, "D40#", .both⟩,
    ⟨"D041#", "G", 11, "D41#", .both⟩,
    ⟨"D042#", "H", 8, "D42#", .both⟩,
    ⟨"D043#", "G", 13, "D43#", .both⟩,
    ⟨"D044#", "F", 12, "D44#", .both⟩,
    ⟨"D045#", "F", 8, "D45#", .both⟩,
    ⟨"D046#", "H", 12, "D46#", .both⟩,
    ⟨"D047#", "J", 13, "D47#", .both⟩,
    ⟨"D048#", "M", 8, "D48#", .both⟩,
    ⟨"D049#", "K", 8, "D49#", .both⟩,
    ⟨"D050#", "K", 10, "D50#", .both⟩,
    ⟨"D051#", "M", 12, "D51#", .both⟩,
    ⟨"D052#", "L", 13, "D52#", .both⟩,
    ⟨"D053#", "L", 9, "D53#", .both⟩,
    ⟨"D054#", "P", 8, "D54#", .both⟩,
    ⟨"D055#", "N", 13, "D55#", .both⟩,
    ⟨"D056#", "L", 11, "D56#", .both⟩,
    ⟨"D057#", "P", 12, "D57#", .both⟩,
    ⟨"D058#", "N", 9, "D58#", .both⟩,
    ⟨"D059#", "R", 13, "D59#", .both⟩,
    ⟨"D060#", "R", 11, "D60#", .both⟩,
    ⟨"D061#", "P", 10, "D61#", .both⟩,
    ⟨"D062#", "T", 12, "D62#", .both⟩ ]

/-- Signal pins, part 5 (R305). -/
def signalPins5 : List Pin :=
  [ ⟨"D063#", "R", 9, "D63#", .both⟩,
    ⟨"D064#", "D", 18, "D64#", .both⟩,
    ⟨"D065#", "D", 14, "D65#", .both⟩,
    ⟨"D066#", "D", 16, "D66#", .both⟩,
    ⟨"D067#", "E", 15, "D67#", .both⟩,
    ⟨"D068#", "F", 14, "D68#", .both⟩,
    ⟨"D069#", "F", 18, "D69#", .both⟩,
    ⟨"D070#", "C", 19, "D70#", .both⟩,
    ⟨"D071#", "G", 15, "D71#", .both⟩,
    ⟨"D072#", "G", 17, "D72#", .both⟩,
    ⟨"D073#", "C", 17, "D73#", .both⟩,
    ⟨"D074#", "E", 19, "D74#", .both⟩,
    ⟨"D075#", "H", 14, "D75#", .both⟩,
    ⟨"D076#", "H", 16, "D76#", .both⟩,
    ⟨"D077#", "H", 18, "D77#", .both⟩,
    ⟨"D078#", "J", 15, "D78#", .both⟩,
    ⟨"D079#", "G", 19, "D79#", .both⟩,
    ⟨"D080#", "K", 18, "D80#", .both⟩,
    ⟨"D081#", "L", 15, "D81#", .both⟩,
    ⟨"D082#", "L", 19, "D82#", .both⟩,
    ⟨"D083#", "K", 16, "D83#", .both⟩,
    ⟨"D084#", "M", 14, "D84#", .both⟩,
    ⟨"D085#", "N", 19, "D85#", .both⟩,
    ⟨"D086#", "M", 18, "D86#", .both⟩,
    ⟨"D087#", "P", 14, "D87#", .both⟩,
    ⟨"D088#", "L", 17, "D88#", .both⟩,
    ⟨"D089#", "R", 17, "D89#", .both⟩,
    ⟨"D090#", "R", 19, "D90#", .both⟩,
    ⟨"D091#", "N", 15, "D91#", .both⟩,
    ⟨"D092#", "R", 15, "D92#", .both⟩,
    ⟨"D093#", "P", 16, "D93#", .both⟩,
    ⟨"D094#", "T", 14, "D94#", .both⟩,
    ⟨"D095#", "P", 18, "D95#", .both⟩ ]

/-- Signal pins, part 6 (R305). -/
def signalPins6 : List Pin :=
  [ ⟨"D096#", "E", 21, "D96#", .both⟩,
    ⟨"D097#", "C", 23, "D97#", .both⟩,
    ⟨"D098#", "D", 22, "D98#", .both⟩,
    ⟨"D099#", "C", 21, "D99#", .both⟩,
    ⟨"D100#", "E", 25, "D100#", .both⟩,
    ⟨"D101#", "G", 21, "D101#", .both⟩,
    ⟨"D102#", "D", 20, "D102#", .both⟩,
    ⟨"D103#", "F", 24, "D103#", .both⟩,
    ⟨"D104#", "D", 24, "D104#", .both⟩,
    ⟨"D105#", "H", 22, "D105#", .both⟩,
    ⟨"D106#", "F", 20, "D106#", .both⟩,
    ⟨"D107#", "G", 25, "D107#", .both⟩,
    ⟨"D108#", "G", 23, "D108#", .both⟩,
    ⟨"D109#", "H", 24, "D109#", .both⟩,
    ⟨"D110#", "J", 25, "D110#", .both⟩,
    ⟨"D111#", "H", 20, "D111#", .both⟩,
    ⟨"D112#", "L", 21, "D112#", .both⟩,
    ⟨"D113#", "L", 25, "D113#", .both⟩,
    ⟨"D114#", "K", 22, "D114#", .both⟩,
    ⟨"D115#", "M", 24, "D115#", .both⟩,
    ⟨"D116#", "L", 23, "D116#", .both⟩,
    ⟨"D117#", "K", 20, "D117#", .both⟩,
    ⟨"D118#", "M", 20, "D118#", .both⟩,
    ⟨"D119#", "N", 25, "D119#", .both⟩,
    ⟨"D120#", "P", 24, "D120#", .both⟩,
    ⟨"D121#", "R", 25, "D121#", .both⟩,
    ⟨"D122#", "P", 20, "D122#", .both⟩,
    ⟨"D123#", "T", 24, "D123#", .both⟩,
    ⟨"D124#", "R", 21, "D124#", .both⟩,
    ⟨"D125#", "P", 22, "D125#", .both⟩,
    ⟨"D126#", "R", 23, "D126#", .both⟩,
    ⟨"D127#", "N", 21, "D127#", .both⟩,
    ⟨"DBSY#", "AC", 9, "DBSY#", .both⟩ ]

/-- Signal pins, part 7 (R305). -/
def signalPins7 : List Pin :=
  [ ⟨"DBSY0#", "AA", 9, "DBSY_C1#", .output⟩,
    ⟨"DBSY1#", "AA", 19, "DBSY_C2#", .output⟩,
    ⟨"DEFER#", "AB", 14, "DEFER#", .input⟩,
    ⟨"DEP00#", "J", 7, "DEP0#", .both⟩,
    ⟨"DEP01#", "J", 5, "DEP1#", .both⟩,
    ⟨"DEP02#", "T", 6, "DEP2#", .both⟩,
    ⟨"DEP03#", "T", 4, "DEP3#", .both⟩,
    ⟨"DEP04#", "J", 9, "DEP4#", .both⟩,
    ⟨"DEP05#", "J", 11, "DEP5#", .both⟩,
    ⟨"DEP06#", "T", 8, "DEP6#", .both⟩,
    ⟨"DEP07#", "T", 10, "DEP7#", .both⟩,
    ⟨"DEP08#", "J", 19, "DEP8#", .both⟩,
    ⟨"DEP09#", "J", 17, "DEP9#", .both⟩,
    ⟨"DEP10#", "T", 18, "DEP10#", .both⟩,
    ⟨"DEP11#", "T", 16, "DEP11#", .both⟩,
    ⟨"DEP12#", "J", 21, "DEP12#", .both⟩,
    ⟨"DEP13#", "J", 23, "DEP13#", .both⟩,
    ⟨"DEP14#", "T", 20, "DEP14#", .both⟩,
    ⟨"DEP15#", "T", 22, "DEP15#", .both⟩,
    ⟨"DRDY#", "AC", 11, "DRDY#", .both⟩,
    ⟨"DRDY0#", "AA", 7, "DRDY_C1#", .output⟩,
    ⟨"DRDY1#", "AA", 21, "DRDY_C2#", .output⟩,
    ⟨"FERR#", "AH", 25, "FERR#", .output⟩,
    ⟨"GSEQ#", "AD", 14, "GSEQ#", .input⟩,
    ⟨"HIT#", "AB", 10, "HIT#", .both⟩,
    ⟨"HITM#", "AB", 12, "HITM#", .both⟩,
    ⟨"ID0#", "AD", 2, "IDa0#/IP0#", .input⟩,
    ⟨"ID1#", "AB", 2, "IDa1#/IP1#", .input⟩,
    ⟨"ID2#", "AC", 3, "IDa2#/DHIT#", .input⟩,
    ⟨"ID3#", "AA", 3, "IDa3#/IDb3#", .input⟩,
    ⟨"ID4#", "AD", 4, "IDa4#/IDb4#", .input⟩,
    ⟨"ID5#", "AB", 4, "IDa5#/IDb5#", .input⟩,
    ⟨"ID6#", "AE", 5, "IDa6#/IDb6#", .input⟩ ]

/-- Signal pins, part 8 (R305). -/
def signalPins8 : List Pin :=
  [ ⟨"ID7#", "AC", 5, "IDa7#/IDb7#", .input⟩,
    ⟨"ID8#", "AD", 6, "IDa8#/IDb8#", .input⟩,
    ⟨"ID9#", "AB", 6, "IDa9#/IDb9#", .input⟩,
    ⟨"IDS#", "AC", 7, "IDS#", .input⟩,
    ⟨"IGNNE#", "AG", 23, "IGNNE#", .input⟩,
    ⟨"INIT#", "AF", 8, "INIT#", .input⟩,
    ⟨"LINT0", "AF", 22, "INT", .input⟩,
    ⟨"LINT1", "AF", 24, "NMI", .input⟩,
    ⟨"LOCK#", "AE", 15, "LOCK#", .both⟩,
    ⟨"OUTEN", "AF", 4, "OUTEN", .input⟩,
    ⟨"PMI#", "AE", 25, "PMI#", .input⟩,
    ⟨"PPODGD#", "AF", 20, "PPODGD#", .output⟩,
    ⟨"PWRGOOD", "AH", 15, "PWRGOOD", .input⟩,
    ⟨"REQ0#", "AE", 9, "REQa0#/LEN0#", .both⟩,
    ⟨"REQ1#", "AF", 10, "WSNP#, D/C#/LEN1#", .both⟩,
    ⟨"REQ2#", "AD", 10, "REQa2#/REQb2#", .both⟩,
    ⟨"REQ3#", "AE", 11, "ASZ0#/DSZ0#", .both⟩,
    ⟨"REQ4#", "AF", 12, "ASZ1#/DSZ1#", .both⟩,
    ⟨"REQ5#", "AD", 12, "REQ5#", .both⟩,
    ⟨"RESET#", "AD", 20, "RESET#", .input⟩,
    ⟨"RP#", "AC", 13, "RP#", .both⟩,
    ⟨"RS0#", "AE", 7, "RS0#", .input⟩,
    ⟨"RS1#", "AD", 8, "RS1#", .input⟩,
    ⟨"RS2#", "AB", 8, "RS2#", .input⟩,
    ⟨"RSP#", "AF", 6, "RSP#", .input⟩,
    ⟨"RSVD", "B", 8, "RSVD", .blank⟩,
    ⟨"SBSY#", "AE", 13, "SBSY#", .both⟩,
    ⟨"SBSY0#", "AA", 13, "SBSY_C1#", .output⟩,
    ⟨"SBSY1#", "AC", 19, "SBSY_C2#", .output⟩,
    ⟨"SMA0", "B", 18, "SMA0", .input⟩,
    ⟨"SMA1", "A", 17, "SMA1", .input⟩,
    ⟨"SMA2", "A", 15, "SMA2", .input⟩,
    ⟨"SMSC", "B", 24, "SMSC", .input⟩ ]

/-- Signal pins, part 9 (R305). -/
def signalPins9 : List Pin :=
  [ ⟨"SMSD", "B", 22, "SMSD", .both⟩,
    ⟨"SMWP", "A", 21, "SMWP", .input⟩,
    ⟨"STBN0#", "F", 4, "STBN0#", .both⟩,
    ⟨"STBN1#", "N", 5, "STBN1#", .both⟩,
    ⟨"STBN2#", "F", 10, "STBN2#", .both⟩,
    ⟨"STBN3#", "N", 11, "STBN3#", .both⟩,
    ⟨"STBN4#", "F", 16, "STBN4#", .both⟩,
    ⟨"STBN5#", "N", 17, "STBN5#", .both⟩,
    ⟨"STBN6#", "F", 22, "STBN6#", .both⟩,
    ⟨"STBN7#", "N", 23, "STBN7#", .both⟩,
    ⟨"STBP0#", "E", 5, "STBP0#", .both⟩,
    ⟨"STBP1#", "M", 4, "STBP1#", .both⟩,
    ⟨"STBP2#", "E", 11, "STBP2#", .both⟩,
    ⟨"STBP3#", "M", 10, "STBP3#", .both⟩,
    ⟨"STBP4#", "E", 17, "STBP4#", .both⟩,
    ⟨"STBP5#", "M", 16, "STBP5#", .both⟩,
    ⟨"STBP6#", "E", 23, "STBP6#", .both⟩,
    ⟨"STBP7#", "M", 22, "STBP7#", .both⟩,
    ⟨"TCK", "AG", 9, "TCK", .input⟩,
    ⟨"TDI", "AG", 7, "TDI", .input⟩,
    ⟨"TDO", "AH", 7, "TDO", .output⟩,
    ⟨"TERMA", "AF", 2, "FSBT1", .input⟩,
    ⟨"TERMB", "AE", 3, "FSBT2", .blank⟩,
    ⟨"THRMALERT#", "A", 7, "THRMALERT#", .output⟩,
    ⟨"THRMTRIP#", "AG", 25, "THRMTRIP#", .output⟩,
    ⟨"TMS", "AH", 9, "TMS", .input⟩,
    ⟨"TND#", "AC", 15, "TND#", .both⟩,
    ⟨"TRDY#", "AF", 14, "TRDY#", .input⟩,
    ⟨"TRST#", "AE", 21, "TRST#", .input⟩,
    ⟨"TUNER[1]", "AH", 3, "", .blank⟩,
    ⟨"TUNER[2]", "AG", 3, "", .blank⟩,
    ⟨"VCCMON", "A", 11, "VCCMON", .output⟩,
    ⟨"VSSMON", "A", 9, "VSSMON", .output⟩ ]

/-- Every pin that is not GND, VCTERM or N/C (R305). -/
def signalPins : List Pin :=
  signalPins1 ++ signalPins2 ++ signalPins3 ++ signalPins4 ++ signalPins5 ++ signalPins6 ++ signalPins7 ++ signalPins8 ++ signalPins9

/-- The places of the N/C pins, by letter (R306). -/
def noConnectPlaces : List (String × List Nat) :=
  [ ("A", [4]), ("B", [4, 6, 14, 16, 20]), ("C", [3, 13, 15, 25]), ("K", [2, 12, 14, 24]), ("U", [5, 11]),
    ("AB", [16]), ("AC", [17, 21]), ("AD", [18]), ("AE", [17]), ("AG", [5, 11, 17, 19, 21]),
    ("AH", [5, 11, 17, 19, 21]) ]

/-- The places of the VCTERM pins (R307). -/
def vctermPlaces : List (String × List Nat) :=
  [ ("A", [2, 6, 10, 14, 18, 22, 25]), ("C", [1, 4, 8, 12, 16, 20, 24]), ("E", [2, 6, 10, 14, 18, 22]),
    ("G", [1, 4, 8, 12, 16, 20, 24]), ("J", [2, 6, 10, 14, 18, 22]), ("L", [1, 4, 8, 12, 16, 20, 24]),
    ("N", [2, 6, 10, 14, 18, 22]), ("R", [1, 4, 8, 12, 16, 20, 24]), ("U", [2, 6, 10, 14, 18, 22, 25]) ]

/-- The places of the GND pins (R308). -/
def gndPlaces : List (String × List Nat) :=
  [ ("A", [1, 3, 5, 8, 13, 16, 19, 20, 23, 24]), ("B", [3, 5, 7, 9, 10, 11, 13, 15, 17, 19, 21, 23, 25]),
    ("C", [2, 6, 10, 14, 18, 22]), ("D", [1, 3, 5, 7, 9, 11, 13, 15, 17, 19, 21, 23, 25]),
    ("E", [4, 8, 12, 16, 20, 24]), ("F", [1, 3, 5, 7, 9, 11, 13, 15, 17, 19, 21, 23, 25]), ("G", [2]),
    ("H", [3, 5, 7, 9, 11, 13, 15, 17, 19, 21, 23, 25]), ("J", [1, 4, 8, 12, 16, 20, 24]),
    ("K", [3, 5, 7, 9, 11, 13, 15, 17, 19, 21, 23, 25]), ("L", [2]),
    ("M", [1, 3, 5, 7, 9, 11, 13, 15, 17, 19, 21, 23, 25]), ("N", [4, 20, 24]),
    ("P", [1, 3, 5, 7, 9, 11, 13, 15, 17, 19, 21, 23, 25]), ("R", [2]),
    ("T", [1, 3, 5, 7, 9, 11, 13, 15, 17, 19, 21, 23, 25]), ("U", [4, 20, 24]),
    ("V", [1, 3, 5, 7, 9, 11, 13, 15, 17, 19, 21, 23, 25]), ("W", [2]),
    ("Y", [1, 3, 5, 7, 9, 11, 13, 15, 17, 19, 21, 23, 25]), ("AA", [2, 20, 24]),
    ("AB", [1, 3, 5, 7, 9, 11, 13, 15, 17, 19, 21, 23, 25]), ("AC", [2, 24]),
    ("AD", [1, 3, 5, 7, 9, 11, 13, 15, 17, 19, 21, 23, 25]), ("AE", [2, 24]),
    ("AF", [1, 5, 7, 9, 11, 13, 15, 17, 19, 21]), ("AG", [2, 4, 6, 8, 10, 12, 14, 16, 18, 20, 22, 24]),
    ("AH", [1]) ]

/-- Pins of one name at many places. -/
def pinsAt (name : String) (d : PinDirection) (places : List (String × List Nat)) : List Pin :=
  places.flatMap fun p => p.2.map fun n => ⟨name, p.1, n, name, d⟩

/-- The whole package (R301, R305 to R308). -/
def allPins : List Pin :=
  signalPins ++ pinsAt "N/C" .blank noConnectPlaces ++ pinsAt "VCTERM" .input vctermPlaces ++
    pinsAt "GND" .input gndPlaces

/-- How many pins have a direction (R302). -/
def directionCount (d : PinDirection) : Nat := (allPins.filter fun p => p.direction == d).length

/-- The letters of the grid, in order (R301). -/
def gridLetters : List String :=
  ["A", "B", "C", "D", "E", "F", "G", "H", "J", "K", "L", "M", "N", "P", "R", "T", "U", "V", "W", "Y", "AA", "AB",
    "AC", "AD", "AE", "AF", "AG", "AH"]

/-- How many places of a letter are populated (R301). -/
def letterCount (l : String) : Nat := (allPins.filter fun p => p.letter == l).length

/-- The pin at a place (R309). -/
def pinAt (letter : String) (number : Nat) : Option Pin :=
  allPins.find? fun p => p.letter == letter && p.number == number

/-- The input set of the processor (R310): every signal pin (R305) that is IN or IN/OUT, and the static parameters TERMB and
the TUNER resistors, whose direction was left out (C19). The power places GND and VCTERM are no pins of R305. -/
def Pin.sampled (p : Pin) : Bool :=
  (p.name != "GND" && p.name != "VCTERM" && (p.direction == .input || p.direction == .both)) ||
    p.name == "TERMB" || p.name == "TUNER[1]" || p.name == "TUNER[2]"

/-- The processor can drive the pin (R310): OUT or IN/OUT. -/
def Pin.driven (p : Pin) : Bool := p.direction == .output || p.direction == .both

end Sys2Proof.Machine
end

