-- ==== Sys2Proof/Machine/Pirom.lean ====
section
/-! DEFINITION. What the processor information ROM of a unit holds (R390 to R409): the sections with their pointers and
checksums, the packed decimal fields, and the whole as one check of an image against its platform. -/

namespace Sys2Proof.Machine

/-- The byte at an offset of an image. -/
def piromByte (mem : Vector Byte 128) (o : Nat) : Byte := mem.toList.getD o 0

/-- The value of a field of `n` bytes at offset `o`, least significant byte lowest (R123, R395). -/
def piromField (mem : Vector Byte 128) (o n : Nat) : Nat :=
  (List.range n).foldr (fun k acc => (piromByte mem (o + k)).toNat + 256 * acc) 0

/-- Every byte from `first` to `last` is 0. -/
def piromZero (mem : Vector Byte 128) (first last : Nat) : Bool :=
  (List.range (last + 1 - first)).all fun i => piromByte mem (first + i) == 0

/-- Packed decimal: the decimal digits of a number of at most `n` digits, one in each nibble (R157). -/
def packedDecimal : Nat → Nat → Nat
  | 0, _ => 0
  | n + 1, v => v % 10 + 16 * packedDecimal n (v / 10)

/-- Every one of the `n` nibbles of a field's value is a decimal digit (R157). -/
def isPackedDecimal : Nat → Nat → Bool
  | 0, v => v == 0
  | n + 1, v => decide (v % 16 ≤ 9) && isPackedDecimal n (v / 16)

/-- One section: its first offset, its last, whether the last is a checksum, and the offset of its header pointer. -/
structure PiromSection where
  first : Nat
  last : Nat
  hasSum : Bool
  pointerAt : Option Nat
  deriving DecidableEq, Repr

/-- The sections of the ROM (R396, C2). -/
def piromSections : List PiromSection :=
  [ ⟨0x00, 0x0D, true, none⟩, ⟨0x0E, 0x16, true, some 0x03⟩, ⟨0x17, 0x27, true, some 0x04⟩,
    ⟨0x28, 0x36, true, some 0x05⟩, ⟨0x37, 0x3D, true, some 0x06⟩, ⟨0x3E, 0x62, true, some 0x07⟩,
    ⟨0x63, 0x66, true, some 0x08⟩, ⟨0x67, 0x79, true, some 0x09⟩, ⟨0x7A, 0x7B, false, some 0x0A⟩ ]

/-- A section's checksum is right and its pointer names it (R158, R396). -/
def sectionOk (mem : Vector Byte 128) (x : PiromSection) : Bool :=
  (!x.hasSum || sectionSum mem x.first x.last == 0) &&
    (match x.pointerAt with
      | none => true
      | some o => piromByte mem o == BitVec.ofNat 8 x.first)

/-- Header: the format revision is two digits (R157), the size is 128 bytes, the reserved bytes are 0 (R397). -/
def headerOk (mem : Vector Byte 128) : Bool :=
  isPackedDecimal 2 (piromField mem 0x00 1) && piromField mem 0x01 2 == 128 && piromZero mem 0x0B 0x0C

/-- A text field of `n` bytes: ASCII characters, then 00h at the unused high offsets (R123, R159). -/
def piromAscii (mem : Vector Byte 128) (o : Nat) : Nat → Bool
  | 0 => true
  | n + 1 =>
    if piromByte mem o == 0 then piromZero mem o (o + n)
    else decide ((piromByte mem o).toNat < 128) && piromAscii mem (o + 1) n

/-- Processor: the S-spec number, sample or production, the reserved byte (R399). -/
def processorOk (mem : Vector Byte 128) : Bool :=
  piromAscii mem 0x0E 6 && (piromByte mem 0x14 == 0 || piromByte mem 0x14 == 1) && piromZero mem 0x15 0x15

/-- Core, identification: the four fields of CPUID[3] (R400). -/
def coreIdOk (mem : Vector Byte 128) (c : Cpuid3) : Bool :=
  piromByte mem 0x17 == c.archrev && piromByte mem 0x18 == c.family && piromByte mem 0x19 == c.model &&
    piromByte mem 0x1A == c.revision && piromZero mem 0x1B 0x1D

/-- Core frequency: the part's, in packed decimal; that of the 1.66 GHz parts may be 1660 or 1666 (R401). -/
def coreFrequencyOk (mem : Vector Byte 128) (k : Sku) : Bool :=
  piromField mem 0x1E 2 == packedDecimal 4 (coreClockMhz k) ||
    (coreClockMhz k == 1660 && piromField mem 0x1E 2 == packedDecimal 4 1666)

/-- Core voltage: four decimal digits (R157); valid if feature flag bit 1 is set, and then the VID-selected one in
millivolts (R262, R401). -/
def coreVoltageOk (mem : Vector Byte 128) (vid : BitVec 5) : Bool :=
  isPackedDecimal 4 (piromField mem 0x22 2) &&
    (!(piromByte mem 0x73).getLsbD 1 ||
      (match vidMillivolts vid with
        | none => true
        | some mv => piromField mem 0x22 2 == packedDecimal 4 mv))

/-- Core, electrical part (R401). -/
def coreOk (mem : Vector Byte 128) (k : Sku) (vid : BitVec 5) : Bool :=
  coreFrequencyOk mem k && piromField mem 0x20 2 == packedDecimal 3 (busClockMhz k).toNat && coreVoltageOk mem vid &&
    isPackedDecimal 2 (piromField mem 0x24 1) && isPackedDecimal 2 (piromField mem 0x25 1) && piromZero mem 0x26 0x26

/-- Cache: the L3 size in kilobytes, in packed decimal (R402). -/
def cacheOk (mem : Vector Byte 128) (k : Sku) : Bool :=
  piromZero mem 0x28 0x2B && piromField mem 0x2C 2 == packedDecimal 4 (l3Kbytes k) && piromZero mem 0x2E 0x35

/-- The bytes at an offset on are these. -/
def piromText (mem : Vector Byte 128) (o : Nat) : List Byte → Bool
  | [] => true
  | b :: rest => piromByte mem o == b && piromText mem (o + 1) rest

/-- Package: "INT2" or "INT3" (R403). -/
def packageOk (mem : Vector Byte 128) (k : Sku) : Bool :=
  piromText mem 0x37 [0x49, 0x4E, 0x54, if isInt3 k then 0x33 else 0x32] && decide ((piromByte mem 0x3B).toNat ≤ 3) &&
    piromZero mem 0x3C 0x3C

/-- The part number: "80542KC" up to 1.0 GHz, "80543KC" from 1.3 GHz (R405). -/
def partNumberOk (mem : Vector Byte 128) (k : Sku) : Bool :=
  piromText mem 0x3E [0x38, 0x30, 0x35, 0x34, if coreClockMhz k ≤ 1000 then 0x32 else 0x33, 0x4B, 0x43] &&
    piromZero mem 0x4D 0x61

/-- The thermal calibration offset byte, valid if feature flag bit 3 is set (R406, R407). -/
def thermalCalibration (mem : Vector Byte 128) : Option Byte :=
  if (piromByte mem 0x73).getLsbD 3 then some (piromByte mem 0x64) else none

/-- Thermal reference: the part's upper temperature reference, where feature flag bit 4 says it is valid; the reserved byte
(R406). The source gives 113 and 105 as defaults; that a valid byte holds no other value is DESIGN CHOICE, log 10. -/
def thermalRefOk (mem : Vector Byte 128) (k : Sku) : Bool :=
  (!(piromByte mem 0x73).getLsbD 4 || (piromByte mem 0x63).toNat == upperTempRef k) && piromZero mem 0x65 0x65

/-- Features: the two CPUID words of the unit; the flag of the scratch EEPROM, which every package has; one digit of TAP
devices, the reserved nibble (R36, R157, R407). -/
def featuresOk (mem : Vector Byte 128) (ia32 : BitVec 32) (ipf : BitVec 64) : Bool :=
  piromField mem 0x67 4 == ia32.toNat && piromField mem 0x6B 8 == ipf.toNat && (piromByte mem 0x73).getLsbD 2 &&
    isPackedDecimal 1 (piromByte mem 0x77).toNat && piromZero mem 0x78 0x78

/-- An image a package of this platform can hold (R390, R395 to R409); offsets 7Ch to 7Fh are unspecified (R396). -/
def piromValid (mem : Vector Byte 128) (p : Platform) : Bool :=
  piromSections.all (sectionOk mem) && headerOk mem && processorOk mem && coreIdOk mem p.cpuid3 &&
    coreOk mem p.sku p.vid && cacheOk mem p.sku && packageOk mem p.sku && partNumberOk mem p.sku &&
    thermalRefOk mem p.sku && featuresOk mem p.ia32Features p.ipfFeatures && piromZero mem 0x7A 0x7B

end Sys2Proof.Machine
end

