-- ==== Sys2Proof/Machine/Signals.lean ====
section
/-! DEFINITION. The signals as the summary tables have them (R493 to R498), the groups of the electrical chapter (R204,
R205), what an unused pin is tied to (R280), the termination mode (R206), the clocks derived from BCLK (R271, R273), the
package's heights (R341). Like the pin lists, these are constants of the package. -/

namespace Sys2Proof.Machine

/-! ### The summary tables -/

/-- The column "Active Level" (R493). -/
inductive ActiveLevel where
  | low | high
  deriving DecidableEq, Repr

/-- The column "Clock"; `unnamed` where a dash is printed (R493). -/
inductive SignalClock where
  | bclk | tck | asynch | unnamed
  deriving DecidableEq, Repr

/-- The column "Signal Group" (R493). -/
inductive SignalClass where
  | arbitration | control | request | systemBus | snoop | response | defer | data | error | execControl
  | diagnostic | tap | platform
  /-- "PC Compatibility, IERR Mode". -/
  | pcCompatibility
  deriving DecidableEq, Repr

/-- The column "Qualified": when the signal means something (R493). -/
inductive Qualifier where
  | always
  /-- Clock a of a request phase. -/
  | ads
  /-- Clock b of a request phase. -/
  | adsNext
  | adsBoth
  | drdy
  | snoopPhase
  | responsePhase
  | idsNext
  | idsBoth
  /-- Nothing is printed. -/
  | blank
  deriving DecidableEq, Repr

/-- One row of Tables A-12 to A-15. -/
structure SignalRow where
  name : String
  active : ActiveLevel
  clock : SignalClock
  cls : SignalClass
  qualified : Qualifier
  deriving DecidableEq, Repr

/-- Table A-12, output signals (R494). -/
def outputSignals : List SignalRow :=
  [ ⟨"CPUPRES#", .low, .unnamed, .platform, .blank⟩,
    ⟨"DBSY_C1#", .low, .bclk, .data, .blank⟩,
    ⟨"DBSY_C2#", .low, .bclk, .data, .blank⟩,
    ⟨"DRDY_C1#", .low, .bclk, .data, .blank⟩,
    ⟨"DRDY_C2#", .low, .bclk, .data, .blank⟩,
    ⟨"FERR#", .low, .asynch, .pcCompatibility, .blank⟩,
    ⟨"SBSY_C1#", .low, .bclk, .data, .blank⟩,
    ⟨"SBSY_C2#", .low, .bclk, .data, .blank⟩,
    ⟨"TDO", .high, .tck, .tap, .blank⟩,
    ⟨"THRMTRIP#", .low, .asynch, .error, .blank⟩,
    ⟨"THRMALERT#", .low, .asynch, .error, .blank⟩ ]

/-- Table A-13, input signals (R495); D/C# is governed by its row of Table A-14 (C14). -/
def inputSignals : List SignalRow :=
  [ ⟨"BPRI#", .low, .bclk, .arbitration, .always⟩,
    ⟨"BR1#", .low, .bclk, .arbitration, .always⟩,
    ⟨"BR2#", .low, .bclk, .arbitration, .always⟩,
    ⟨"BR3#", .low, .bclk, .arbitration, .always⟩,
    ⟨"BCLKp", .high, .unnamed, .control, .always⟩,
    ⟨"BCLKn", .high, .unnamed, .control, .always⟩,
    ⟨"DEFER#", .low, .bclk, .snoop, .snoopPhase⟩,
    ⟨"DHIT#", .low, .bclk, .systemBus, .idsNext⟩,
    ⟨"GSEQ#", .low, .bclk, .snoop, .snoopPhase⟩,
    ⟨"ID[9:0]#", .low, .bclk, .defer, .idsBoth⟩,
    ⟨"IDS#", .low, .bclk, .defer, .always⟩,
    ⟨"INIT#", .low, .asynch, .execControl, .always⟩,
    ⟨"INT (LINT0)", .high, .asynch, .execControl, .blank⟩,
    ⟨"IP[1:0]#", .low, .bclk, .systemBus, .idsNext⟩,
    ⟨"NMI (LINT1)", .high, .asynch, .execControl, .blank⟩,
    ⟨"RESET#", .low, .bclk, .control, .always⟩,
    ⟨"RS[2:0]#", .low, .bclk, .response, .always⟩,
    ⟨"RSP#", .low, .bclk, .response, .always⟩,
    ⟨"PMI#", .low, .asynch, .execControl, .blank⟩,
    ⟨"PWRGOOD", .high, .asynch, .control, .blank⟩,
    ⟨"TCK", .high, .unnamed, .diagnostic, .always⟩,
    ⟨"TDI", .high, .tck, .diagnostic, .always⟩,
    ⟨"TMS", .high, .tck, .diagnostic, .always⟩,
    ⟨"TRST#", .low, .asynch, .diagnostic, .always⟩,
    ⟨"TRDY#", .low, .bclk, .response, .responsePhase⟩ ]

/-- Table A-14, input and output signals of one driver (R496), first part. -/
def singleDriverSignals1 : List SignalRow :=
  [ ⟨"A[49:3]#", .low, .bclk, .request, .adsBoth⟩,
    ⟨"ADS#", .low, .bclk, .request, .always⟩,
    ⟨"AP[1:0]#", .low, .bclk, .request, .adsBoth⟩,
    ⟨"ASZ[1:0]#", .low, .bclk, .systemBus, .ads⟩,
    ⟨"ATTR[3:0]#", .low, .bclk, .systemBus, .adsNext⟩,
    ⟨"BE[7:0]#", .low, .bclk, .systemBus, .adsNext⟩,
    ⟨"BR0#", .low, .bclk, .systemBus, .always⟩,
    ⟨"BPM[5:0]#", .low, .bclk, .diagnostic, .always⟩,
    ⟨"CCL#", .low, .bclk, .systemBus, .adsNext⟩,
    ⟨"D[127:0]#", .low, .bclk, .data, .drdy⟩,
    ⟨"DBSY#", .low, .bclk, .data, .always⟩,
    ⟨"D/C#", .low, .bclk, .systemBus, .ads⟩,
    ⟨"DEN#", .low, .bclk, .systemBus, .adsNext⟩,
    ⟨"DEP[15:0]#", .low, .bclk, .systemBus, .drdy⟩,
    ⟨"DID[9:0]#", .low, .bclk, .systemBus, .adsNext⟩ ]

/-- Table A-14, second part (R496). -/
def singleDriverSignals2 : List SignalRow :=
  [ ⟨"DRDY#", .low, .bclk, .data, .always⟩,
    ⟨"DPS#", .low, .bclk, .systemBus, .adsNext⟩,
    ⟨"DSZ[1:0]#", .low, .bclk, .systemBus, .adsNext⟩,
    ⟨"EXF[4:0]#", .low, .bclk, .systemBus, .adsNext⟩,
    ⟨"FCL#", .low, .bclk, .systemBus, .adsNext⟩,
    ⟨"LEN[2:0]#", .low, .bclk, .systemBus, .adsNext⟩,
    ⟨"LOCK#", .low, .bclk, .arbitration, .always⟩,
    ⟨"OWN#", .low, .bclk, .systemBus, .adsNext⟩,
    ⟨"REQ[5:0]#", .low, .bclk, .request, .adsBoth⟩,
    ⟨"RP#", .low, .bclk, .request, .adsBoth⟩,
    ⟨"SBSY#", .low, .bclk, .data, .always⟩,
    ⟨"SPLCK#", .low, .bclk, .systemBus, .adsNext⟩,
    ⟨"STBn[7:0]#", .low, .unnamed, .data, .always⟩,
    ⟨"STBp[7:0]#", .low, .unnamed, .data, .always⟩,
    ⟨"WSNP#", .low, .bclk, .systemBus, .ads⟩ ]

/-- Table A-14 (R496). -/
def singleDriverSignals : List SignalRow := singleDriverSignals1 ++ singleDriverSignals2

/-- Table A-15, input and output signals of several drivers: the wired-OR signals (R491, R497). -/
def wiredOrSignals : List SignalRow :=
  [ ⟨"BNR#", .low, .bclk, .systemBus, .always⟩,
    ⟨"BERR#", .low, .bclk, .error, .always⟩,
    ⟨"BINIT#", .low, .bclk, .error, .always⟩,
    ⟨"HIT#", .low, .bclk, .snoop, .snoopPhase⟩,
    ⟨"HITM#", .low, .bclk, .snoop, .snoopPhase⟩,
    ⟨"TND#", .low, .bclk, .snoop, .always⟩ ]

/-- Every row of the summary tables. -/
def allSignals : List SignalRow := outputSignals ++ inputSignals ++ singleDriverSignals ++ wiredOrSignals

/-- Whether a row's signal means something in a clock: in clock a or b of a request, with DRDY#, in a snoop or a response
phase, with IDS# or after it (R493). Of a row with nothing printed the source says nothing: its signal always means
something (DESIGN CHOICE, log 32). -/
def Qualifier.holds (q : Qualifier) (ads adsNext drdy snoopPhase responsePhase ids idsNext : Bool) : Bool :=
  match q with
  | .always | .blank => true
  | .ads => ads
  | .adsNext => adsNext
  | .adsBoth => ads || adsNext
  | .drdy => drdy
  | .snoopPhase => snoopPhase
  | .responsePhase => responsePhase
  | .idsNext => idsNext
  | .idsBoth => ids || idsNext

/-! ### Electrical groups -/

/-- The signal groups of Table 2-1 (R204). -/
inductive PinGroup where
  | agtlInput | agtlIo | agtlOutput | agtlInterrupt | powerGood | hstlClock | tapInput | tapOutput
  | systemManagement | power | lvttlPowerPod | other
  deriving DecidableEq, Repr

/-- The signals of a group (R204). -/
def PinGroup.signals : PinGroup → List String
  | .agtlInput =>
    ["BPRI#", "BR[3:1]#", "DEFER#", "GSEQ#", "ID[9:0]#", "IDS#", "RESET#", "RS[2:0]#", "RSP#", "TRDY#"]
  | .agtlIo =>
    ["A[49:3]#", "ADS#", "AP[1:0]#", "BERR#", "BINIT#", "BNR#", "BPM[5:0]#", "BR0#", "D[127:0]#", "DBSY#", "DEP[15:0]#",
     "DRDY#", "HIT#", "HITM#", "LOCK#", "REQ[5:0]#", "RP#", "SBSY#", "STBN[7:0]#", "STBP[7:0]#", "TND#"]
  | .agtlOutput => ["FERR#", "THRMTRIP#", "DBSY[1:0]#", "DRDY[1:0]#", "SBSY[1:0]#"]
  | .agtlInterrupt => ["A20M#", "IGNNE#", "INIT#", "LINT[1,0]", "PMI#"]
  | .powerGood => ["PWRGOOD"]
  | .hstlClock => ["BCLKn", "BCLKp"]
  | .tapInput => ["TCK", "TDI", "TMS", "TRST#"]
  | .tapOutput => ["TDO"]
  | .systemManagement => ["3.3V", "SMA[2:0]", "SMSC", "SMSD", "SMWP", "THRMALERT#"]
  | .power => ["GND", "VCTERM"]
  | .lvttlPowerPod => ["CPUPRES#", "OUTEN", "PPODGD#"]
  | .other => ["TERMA", "TERMB", "TUNER1", "TUNER2", "VCCMON", "VSSMON"]

/-- Signals that are never terminated on the die, even when on-die termination is enabled (R204, note 1). -/
def neverTerminatedOnDie (g : PinGroup) (name : String) : Bool :=
  match g with
  | .powerGood | .tapInput | .tapOutput | .systemManagement | .lvttlPowerPod => true
  | .agtlIo => name == "BPM[5:0]#"
  | .agtlInput | .agtlOutput | .agtlInterrupt | .hstlClock | .power | .other => false

/-! ### Unused pins (R280) -/

/-- The column "recommended connection" with its notes: GND, VCTERM, either of them through a resistor (note 3), the 3.3 V
supply through a resistor (note 4), left open, VCTERM or left open (note 2), or none because the pin must be used. -/
inductive Unused where
  | gnd | vcterm | gndResistor | vctermResistor | pullUp33 | open | vctermOrOpen | mustBeUsed
  deriving DecidableEq, Repr

/-- Table 2-26 by pin or group of pins; the unreadable cell of TDI is VCTERM by analogy with TMS (N25; DEDUCED). -/
def unusedPins : List (String × Unused) :=
  [ ("AGTL+ pins", .vcterm), ("SBSY[0:1]#", .vctermOrOpen), ("DBSY[0:1]#", .vctermOrOpen),
    ("DRDY[0,1]#", .vctermOrOpen), ("HSTL Clock Signals", .mustBeUsed), ("All Power Signals", .mustBeUsed),
    ("PWRGOOD", .mustBeUsed), ("TUNER[2:1]", .mustBeUsed), ("TCK", .gndResistor), ("TRST#", .gndResistor),
    ("TDI", .vctermResistor), ("TDO", .vctermResistor), ("TMS", .vctermResistor),
     ("3.3V", .gnd), ("SMA[2:0]", .open), ("SMSC", .open), ("SMSD", .open),
    ("SMWP", .open), ("THRMALERT#", .pullUp33), ("OUTEN", .mustBeUsed), ("PPODGD#", .mustBeUsed),
    ("CPUPRES#", .mustBeUsed), ("N/C", .open) ]

/-- What an unused input reads. -/
inductive UnusedLevel where
  | deasserted | zero | floating
  deriving DecidableEq, Repr

/-- The inputs of the package that are no AGTL+ signals (R204, R305). -/
def otherInputs : List String :=
  ["3.3V", "BCLKn", "BCLKp", "OUTEN", "PWRGOOD", "SMA0", "SMA1", "SMA2", "SMSC", "SMSD", "SMWP", "TCK", "TDI", "TMS",
   "TRST#", "TERMA", "TERMB", "TUNER[1]", "TUNER[2]"]

/-- A single AGTL+ pin that the processor samples, by its name in the pin list (R204, R305). -/
def isAgtlInputPin (name : String) : Bool :=
  allPins.any (fun p => p.name == name && p.sampled) && !otherInputs.contains name

/-- What an input reads that is unused and connected as recommended: an AGTL+ input, by the name of its group or of its pin,
reads deasserted, whatever its active level; the open SMA0, SMA1 and SMWP read 0 through their pull-downs, SMA2 reads Z
(R63, R280, R383). Of the others the source says nothing. -/
def unusedReads (name : String) : Option UnusedLevel :=
  if name == "SMA0" || name == "SMA1" || name == "SMWP" then some .zero
  else if name == "SMA2" then some .floating
  else if (PinGroup.agtlInput.signals ++ PinGroup.agtlIo.signals ++ PinGroup.agtlInterrupt.signals).contains name ||
    isAgtlInputPin name
  then some .deasserted
  else none

/-! ### Termination, clocks, package -/

/-- The VREF uncertainty of a termination mode in microvolts (R206, R213). -/
def vrefUncertaintyUv : TerminationMode → Nat
  | .onDie => 125000
  | .offDie => 100000

/-- IOL at 0.3 V in milliamperes (R206, R213). -/
def iolMa : TerminationMode → Nat
  | .onDie => 17
  | .offDie => 34

/-- Twice the core clock in megahertz: `2 * f_core = f_BCLK * N` for the ratio 2/N of the configuration (R271). -/
def twiceCoreClock (k : Sku) (ratio : Nat) : Int := busClockMhz k * ratio

/-- Transfers on the data bus in one bus clock (R273). -/
def transfersPerClock : Nat := 2

/-- The bandwidth of the data bus in megabytes a second: 16 bytes at the data rate (R273). -/
def busBandwidthMb (k : Sku) : Nat := 16 * dataRateMts k

/-- The heights of the IHS and of the substrate in micrometres (R341). -/
def packageHeightsUm : Sku → Nat × Nat
  | .f900c1p5 | .f1000c3 => (5575, 3397)
  | .f1300c3 | .f1400c4 | .f1500c6 | .f1500c4 | .f1600c6 | .f1600c9 | .f1660c6 | .f1660c9 => (5825, 3447)

/-- The 2D matrix mark is on the pin side (R343, C20). The list C20 takes names the parts from 1.30 to 1.60 GHz and the
9 MB class; that the 1.66 GHz / 6 MB part has it as well is DESIGN CHOICE, log 34. -/
def hasMatrixMark (k : Sku) : Bool := decide (1300 ≤ coreClockMhz k)

end Sys2Proof.Machine
end

