-- ==== Sys2Proof/Safety.lean ====
section
/-! DEFINITION. What counts as a safe run and as an undisturbed part of the machine, in the terms the statements use. -/

namespace Sys2Proof.Machine

/-- The thermal monitor has nothing left to do at the present die temperature, as one that is evaluated at every step
(R360): a processor that runs and has not tripped is not above the trip point (R86, R365); with ETM enabled it is not in
the normal mode above the entry point (R361), and counts no time toward exit unless it is below it (R85, R363). -/
def State.Settled (s : State) : Prop :=
  s.powered = true → s.bus.inReset = false → s.thermal.mode ≠ .tripped →
    s.platform.dieTemp ≤ Config.tTrip ∧
    (s.thermal.etmEnabled = true →
      (s.thermal.mode = .normal → s.platform.dieTemp ≤ Config.tEtmEntry) ∧
      (s.thermal.mode = .etmLowPower → Config.tEtmEntry ≤ s.platform.dieTemp → s.thermal.belowTime = 0))

/-- The items of the core and of the bus agent to which R779 gives a value after RESET#, but for the pc and what is sampled at
the release: the caches empty, LINT0 and LINT1 disabled, no NMI in service or pending, no purge in progress, the rotating ID
3 and no owner, BREQ# and every other output deasserted, no request phase, transaction or deferred phase under way. -/
def State.ResetValues (s : State) : Prop :=
  s.core.cache = [] ∧ s.core.lint0 = .disabled ∧ s.core.lint1 = .disabled ∧ s.core.nmiInService = false ∧
    s.core.nmiPending = false ∧ s.bus.tlbPurging = [] ∧ s.bus.rotatingId = 3 ∧ s.bus.owner = none ∧
    s.bus.breqOut = false ∧ s.bus.latchA = none ∧ s.bus.issuing = [] ∧ s.bus.nextB = none ∧ s.bus.ioq = [] ∧
    s.bus.deferred = [] ∧ s.bus.idLatch = none ∧ s.bus.out = PinsOut.idle

/-- RESET# holds the processor as long as it is asserted: the items of R779 keep their values, the core is stopped (R88),
and the thermal monitor is in its normal state (R85, R86), whatever else happens, a loss of power among it. -/
def State.HeldInReset (s : State) : Prop :=
  s.bus.inReset = true →
    s.ResetValues ∧ s.core.run = .stopped ∧ s.thermal.mode = .normal ∧ s.thermal.thrmtrip = false

/-- The invariant every step keeps: memory is in its canonical form (R101), the PIROM holds a valid image of this unit
(R390), the thermal monitor is settled (R360), and RESET# holds what it has reset as long as it is asserted (R779). -/
def State.Inv (s : State) : Prop :=
  s.mem.wf = true ∧ piromValid s.pirom.mem s.platform = true ∧ s.Settled ∧ s.HeldInReset

/-- The owner of the bus, if there is one, is the agent of the lowest priority (R634). -/
def State.OwnerLast (s : State) : Prop := ∀ o, s.bus.owner = some o → s.bus.rotatingId = o

/-- The package of this state is tripped as R365 leaves it: THRMTRIP# asserted. -/
def State.TripShown (s : State) : Prop := s.thermal.mode = .tripped → s.thermal.thrmtrip = true

/-! ### Undisturbed parts -/

/-- Only the two memories of the SMBus, the answer and the counter of free values may differ. -/
def OnlyMemories (s t : State) : Prop :=
  t = { s with pirom := t.pirom, scratch := t.scratch, answer := t.answer, free := t.free }

/-- Only the sensor, the answer and the counter of free values may differ. -/
def OnlySensor (s t : State) : Prop := t = { s with sensor := t.sensor, answer := t.answer, free := t.free }

/-- Only what the SMBus reaches may differ, and the script. -/
def OnlySmbus (s t : State) : Prop :=
  t = { s with pirom := t.pirom, scratch := t.scratch, sensor := t.sensor, answer := t.answer, free := t.free,
               inputs := t.inputs }

/-- Only the queue of the bus agent and the own request phase under way may differ. -/
def OnlyQueue (s t : State) : Prop :=
  t = { s with bus := { s.bus with ioq := t.bus.ioq, issuing := t.bus.issuing } }

/-- Only the core, the requests it has handed over and the counter of free values may differ. -/
def OnlyCore (s t : State) : Prop :=
  t = { s with core := t.core, bus := { s.bus with outQ := t.bus.outQ }, free := t.free }

/-- The three devices of the SMBus are as before. -/
def SmbusSame (s t : State) : Prop := t.pirom = s.pirom ∧ t.scratch = s.scratch ∧ t.sensor = s.sensor

/-- A new transaction stands at the end of the in-order queue, as a request phase leaves it (R600, R622). -/
def Enters (s t : State) (row : BusRow) (r : Request) (flag : Bool) (len : BitVec 3) : Prop :=
  ∃ x : Txn, t.bus.ioq = s.bus.ioq ++ [x] ∧ x.row = row ∧ x.req = r ∧ x.req1 = flag ∧ x.len = len ∧
    x.snoop = none ∧ x.response = none ∧ x.got = 0 ∧
    x.src = (if r.isOwn s.bus.arbId then s.bus.issuing.head? else none) ∧
    t.bus.issuing = (if r.isOwn s.bus.arbId then s.bus.issuing.drop 1 else s.bus.issuing)

/-- The event is the next thing that happens. -/
def State.Next (s : State) (x : Input) (rest : List Input) : Prop := s.special = none ∧ s.inputs = x :: rest

/-- A move of the processor itself: a bus clock, an instruction or an internal step of its core, an event it takes, a purge
it carries out. -/
def Input.isProcessor : Input → Bool
  | .clock _ | .core _ | .coreAct _ | .coreInterrupt | .purgeDone => true
  | _ => false

/-- An event that reaches the SMBus devices: a packet, their time, their power. -/
def Input.isSmbus : Input → Bool
  | .packet _ | .packetSmwpChange _ | .sensorTime _ _ | .diode _ | .sensorRate _ | .smbusPower _ _ => true
  | _ => false

end Sys2Proof.Machine
end

