-- ==== Sys2Proof/Certificates/Slice0/Obligations.lean ====
section
/-! DEFINITION. The statements for the provers. -/

section

open Sys2Proof Sys2Proof.Machine

/-! ### Encoding -/

/-- Every well-formed instruction that travels as an SMBus packet is what its packet decodes to (R142 to R155). -/
def Obligations.SmbusPacketsRoundTrip : Prop :=
  ∀ (c : OpenCells) (i : Instr) (items : List HostItem), i.wf = true → encode c i = .packet items →
    decode c i.smwpLevel (.packet items) = .instr i

/-- Every well-formed request of Table A-10 is what its two clocks decode to (R160, R161), under every reading of the cells
the source lost that lets no word match two rows (R162, R163): the cells are parameters, and nothing here rests on the
spec's default for them. -/
def Obligations.BusRequestsRoundTrip : Prop :=
  ∀ (c : OpenCells) (i : Instr) (a b : ClockWord) (smwp : Bool), c.legal = true → i.wf = true →
    encode c i = .request a b → decode c smwp (.request a b) = .instr i

/-- No bit of a request is dropped: what two clocks decode to encodes back to them, whatever the lost cells are. -/
def Obligations.DecodedRequestsEncodeBack : Prop :=
  ∀ (c : OpenCells) (smwp : Bool) (a b : ClockWord) (i : Instr), decode c smwp (.request a b) = .instr i →
    encode c i = .request a b

/-- The special transactions by their code (R170) and the core instructions by their name (R140). -/
def Obligations.SpecialsAndNamedRoundTrip : Prop :=
  ∀ (c : OpenCells) (i : Instr) (smwp : Bool), i.wf = true → ((∃ r, encode c i = .special r) ∨ encode c i = .named i) →
    decode c smwp (encode c i) = .instr i

/-- A few words written out from the encoding tables, whatever the lost cells are. -/
def Obligations.WordsDecode : Prop :=
  ∀ c : OpenCells,
  -- A1h, one byte: current address read of scratch EEPROM 1 (R142, R146)
  decode c false (.packet [.start, .byte 0xA1, .nack, .stop]) = .instr (.eeCurrentAddressRead ⟨0b00, false⟩) ∧
  -- A2h, 63h, A3h: random read of PIROM 1, offset 63h (R147)
  decode c false (.packet [.start, .byte 0xA2, .byte 0x63, .start, .byte 0xA3, .nack, .stop]) =
    .instr (.eeRandomRead ⟨0b00, true⟩ 0x63) ∧
  -- 52h, 0Dh, 69h: WRHL of 105 (R143, R150, R151)
  decode c false (.packet [.start, .byte 0x52, .byte 0x0D, .byte 0x69, .stop]) = .instr (.wrhl 0b0101001 0x69) ∧
  -- 19h: the alert response address (R144, R155)
  decode c false (.packet [.start, .byte 0x19, .nack, .stop]) = .instr .ara ∧
  -- REQa = 0 01 1 1 0, REQb = 0 01 100: a data read of a line below 64 GB (R102, R106, R107, R161)
  (∃ r, decode c false (.request { pins := 0x10, req := 0b001110 } { pins := 0, req := 0b001100 }) =
    .instr (.memRead r 0b01 1 0b100)) ∧
  -- REQa = 001001, REQb = 0 01 101: Purge TC
  (∃ r, decode c false (.request { pins := 0, req := 0b001001 } { pins := 0, req := 0b001101 }) = .instr (.purgeTc r))

/-! ### The step -/

/-- What is fetched and decodes to an instruction is run: a packet, the code of a special transaction, the two clocks of
a request after the other phases of the clock, a core instruction. That the request of a clock with a parity error is run
all the same, where BERR# may be driven for it, is the model's choice (R720, log 27). -/
def Obligations.StepRunsTheDecodedInstruction : Prop :=
  (∀ (s : State) (items : List HostItem) (rest : List Input) (i : Instr), s.Next (.packet items) rest →
    decode s.platform.cells s.platform.smwp (.packet items) = .instr i → step s = exec i { s with inputs := rest }) ∧
  (∀ (s : State) (r : Request), s.special = some r → step s = exec (decodeSpecial r) { s with special := none }) ∧
  (∀ (s : State) (p : Pins) (rest : List Input) (a : ClockWord) (i : Instr), s.Next (.clock p) rest →
    s.onBus = true → contention s p = false →
    ((merged s p).binit = false ∨ s.bus.poc.opts.binitObserve = false) →
    (parityError s (merged s p) = false ∨ s.bus.poc.opts.berrOnBus = true) → s.bus.latchA = some a →
    decode s.platform.cells s.platform.smwp (.request a { pins := (merged s p).a, req := (merged s p).req }) = .instr i →
    ∃ u : State, u = clockPrologue p { s with inputs := rest } ∧
      step s = exec i { u with bus := { u.bus with latchA := none } }) ∧
  (∀ (s : State) (i : Instr) (rest : List Input), s.Next (.core i) rest → i.isCore = true → s.coreReady = true →
    step s = exec i { s with inputs := rest })

/-! ### Invariants -/

/-- Memory keeps its canonical form and the PIROM a valid image of its unit, whatever happens; the thermal monitor is
settled after every step, as one that is evaluated at every step of the processor (R360, R85, R86); and as long as RESET# is
asserted the items of R779 keep their values, through a loss of power among others. -/
def Obligations.StepKeepsInv : Prop := ∀ s t : State, s.Inv → step s = .next t → t.Inv

/-- The state after reset meets the invariant; the image and the die temperature are the log's (log 10). -/
def Obligations.ResetInv : Prop := State.reset.Inv

/-- No byte of the PIROM ever changes, and none of the scratch EEPROM while SMWP is high (R390, R411, R420). -/
def Obligations.ProtectedBytesNeverChange : Prop :=
  ∀ s t : State, step s = .next t →
    t.pirom.mem = s.pirom.mem ∧ (s.platform.smwp = true → t.scratch.mem = s.scratch.mem)

/-- The owner of the bus has the lowest priority, at every step (R634, R642, R779). -/
def Obligations.StepKeepsOwnerLast : Prop := ∀ s t : State, s.OwnerLast → step s = .next t → t.OwnerLast

/-- Only RESET# ends a thermal trip (R366). -/
def Obligations.OnlyResetEndsATrip : Prop :=
  ∀ s t : State, s.thermal.mode = .tripped → step s = .next t →
    (t.thermal.mode = .tripped ∧ t.thermal.thrmtrip = s.thermal.thrmtrip) ∨
      (∃ rest, s.Next .resetAssert rest ∧ t.thermal.mode = .normal ∧ t.thermal.thrmtrip = false)

/-- The SMBus devices are reached by packets, by their own time and by their supply only; and a packet reaches nothing
else (R100, R380, R431, R782). -/
def Obligations.SmbusIsSeparate : Prop :=
  ∀ s t : State, step s = .next t →
    (SmbusSame s t ∨ ∃ x rest, s.Next x rest ∧ x.isSmbus = true) ∧
    (∀ items rest, s.Next (.packet items) rest → OnlySmbus s t)

/-- No instruction of the table writes a general, floating-point or predicate register or a saved record when `exec` runs
it (R30 to R32, R660). That is the model's choice where the source leaves the core opaque: the value of CPUID goes to
`cpuidOut`, what a load brings to `inbox`, and the opaque core moves it on (log 15). -/
def Obligations.NoInstructionWritesTheRegisters : Prop :=
  ∀ (i : Instr) (s t : State), exec i s = .next t →
    t.core.gr = s.core.gr ∧ t.core.fr = s.core.fr ∧ t.core.pr = s.core.pr ∧ t.core.saved = s.core.saved

/-! ### The memories of the SMBus -/

/-- Address decode: a memory by 1010, SMA1, SMA0 and the device select bit of the address byte (R142, R384), the sensor by
its pattern for SMA2 and by SMA1 (R143, R432); the devices answer only with power (R65). -/
def Obligations.DeviceAddresses : Prop :=
  (∀ (s : State) (b : Byte),
    ((isMemoryAddress (byteAddress b) && selects s (addressSel (byteAddress b)).sma) = true ↔
      s.platform.smbusPower = true ∧ b.extractLsb' 4 4 = 0b1010#4 ∧ b.getLsbD 3 = s.platform.sma1 ∧
        b.getLsbD 2 = s.platform.sma0) ∧
    (addressSel (byteAddress b)).pirom = b.getLsbD 1) ∧
  (∀ (s : State) (b : Byte),
    (sensorSelects s (byteAddress b) = true ↔
      s.platform.smbusPower = true ∧
      b.extractLsb' 4 4 = (match s.platform.sma2 with
        | .low => 0b0011#4
        | .floating => 0b0101#4
        | .high => 0b1001#4) ∧
      b.getLsbD 3 = (s.platform.sma2 == .high) ∧ b.getLsbD 2 = s.platform.sma1 ∧
      b.getLsbD 1 = (s.platform.sma2 == .floating)))

/-- EE_CURRENT_ADDRESS_READ returns the byte at the counter, which moves to the next offset modulo 128 (R414);
EE_RANDOM_READ returns the byte at `data_addr[6:0]` and leaves the counter behind it (R415). -/
def Obligations.AddressReads : Prop :=
  ∀ (s : State) (sel : EeSel) (da : Byte), selects s sel.sma = true →
    ∀ x ∈ [(Instr.eeCurrentAddressRead sel, (s.eeprom sel.pirom).counter, [DevItem.ack]),
        (.eeRandomRead sel da, da.extractLsb' 0 7, [.ack, .ack, .ack])],
      ∃ t, exec x.1 s = .next t ∧ OnlyMemories s t ∧ t.free = s.free ∧
        t.answer = x.2.2 ++ [.data ((s.eeprom sel.pirom).byteAt x.2.1)] ∧
        t.eeprom sel.pirom = { s.eeprom sel.pirom with counter := x.2.1 + 1 } ∧
        t.eeprom (!sel.pirom) = s.eeprom (!sel.pirom)

/-- EE_SEQUENTIAL_READ of `n` bytes from `first` returns `mem[(first + k) mod 128]` and leaves the counter at `first + n`
(R416); it begins as a current address read or as a random read. -/
def Obligations.SequentialRead : Prop :=
  ∀ (s : State) (sel : EeSel) (start : Option Byte) (more : Nat) (first : BitVec 7), selects s sel.sma = true →
    (match start with
      | none => first = (s.eeprom sel.pirom).counter
      | some da => first = da.extractLsb' 0 7) →
    ∃ t, exec (.eeSequentialRead sel start more) s = .next t ∧ OnlyMemories s t ∧ t.free = s.free ∧
      t.answer = (if start.isSome then [.ack, .ack, .ack] else [.ack]) ++
        ((List.range (more + 1)).map fun k => .data ((s.eeprom sel.pirom).byteAt (first + BitVec.ofNat 7 k))) ∧
      t.eeprom sel.pirom = { s.eeprom sel.pirom with counter := first + BitVec.ofNat 7 (more + 1) } ∧
      t.eeprom (!sel.pirom) = s.eeprom (!sel.pirom)

/-- EE_BYTE_WRITE stores its byte at `data_addr[6:0]`, changes no other byte, and moves the counter to the next offset of
the same eight byte page (R412, R418). -/
def Obligations.ByteWrite : Prop :=
  ∀ (s : State) (sma : BitVec 2) (da d : Byte) (o : BitVec 7), selects s sma = true → s.platform.smwp = false →
    o = da.extractLsb' 0 7 →
    ∃ t, exec (.eeByteWrite sma da d) s = .next t ∧ OnlyMemories s t ∧ t.free = s.free ∧ t.pirom = s.pirom ∧
      t.answer = [.ack, .ack, .ack] ∧
      (∀ a : BitVec 7, t.scratch.byteAt a = if a = o then d else s.scratch.byteAt a) ∧
      t.scratch.counter = (o &&& 0x78) ||| ((o + 1) &&& 0x07)

/-- EE_PAGE_WRITE stores byte `k` at `(o and 78h) or ((o + k) and 07h)`; the last write to each offset wins, and no other
byte changes (R412, R419). -/
def Obligations.PageWrite : Prop :=
  ∀ (s : State) (sma : BitVec 2) (da : Byte) (data : List Byte) (o : BitVec 7), selects s sma = true →
    s.platform.smwp = false → o = da.extractLsb' 0 7 →
    ∃ t, exec (.eePageWrite sma da data) s = .next t ∧ OnlyMemories s t ∧ t.free = s.free ∧ t.pirom = s.pirom ∧
      t.answer = .ack :: .ack :: List.replicate data.length .ack ∧
      (∀ a : BitVec 7, t.scratch.byteAt a =
        match ((List.range data.length).filter fun k =>
            ((o &&& 0x78) ||| ((o + BitVec.ofNat 7 k) &&& 0x07)) == a).getLast? with
        | none => s.scratch.byteAt a
        | some k => data.getD k 0) ∧
      t.scratch.counter = (o &&& 0x78) ||| ((o + BitVec.ofNat 7 data.length) &&& 0x07)

/-- EE_WRITE_TO_PIROM and EE_WRITE_PROTECTED change no byte; the data address is loaded when the data is not
acknowledged, and the counter is any value when it is (R420, R421). The byte and page write with SMWP high are
EE_WRITE_PROTECTED. -/
def Obligations.ProtectedWrites : Prop :=
  ∀ (s : State) (sma : BitVec 2) (da d : Byte) (data : List Byte), selects s sma = true →
    (∃ t, exec (.eeWriteToPirom sma da data) s = .next t ∧ OnlyMemories s t ∧ t.scratch = s.scratch ∧
      t.pirom.mem = s.pirom.mem ∧ (Config.piromWriteAck = false → t.pirom.counter = da.extractLsb' 0 7) ∧
      t.answer = .ack :: .ack :: List.replicate data.length (if Config.piromWriteAck then .ack else .nack)) ∧
    (∃ t, exec (.eeWriteProtected sma da data) s = .next t ∧ OnlyMemories s t ∧ t.pirom = s.pirom ∧
      t.scratch.mem = s.scratch.mem ∧ (Config.scratchWpAck = false → t.scratch.counter = da.extractLsb' 0 7) ∧
      t.answer = .ack :: .ack :: List.replicate data.length (if Config.scratchWpAck then .ack else .nack)) ∧
    (s.platform.smwp = true →
      exec (.eeByteWrite sma da d) s = exec (.eeWriteProtected sma da [d]) s ∧
      exec (.eePageWrite sma da data) s = exec (.eeWriteProtected sma da data) s)

/-- A packet that selects no device of the package leaves it as it is; the host sees a negative acknowledge (R384, R432,
R447). Of the selected memory, the write with no data loads the counter and changes no byte (R415); a write packet with
no data address changes nothing (R422). -/
def Obligations.UnselectedAndAddressOnlyPackets : Prop :=
  (∀ (s : State) (sel : EeSel) (da d : Byte) (data : List Byte) (start : Option Byte) (more : Nat),
    selects s sel.sma = false →
    ∀ i ∈ [Instr.eeCurrentAddressRead sel, .eeRandomRead sel da, .eeSequentialRead sel start more,
        .eeByteWrite sel.sma da d, .eePageWrite sel.sma da data, .eeWriteToPirom sel.sma da data,
        .eeWriteProtected sel.sma da data],
      exec i s = .next { s with answer := [.nack] }) ∧
  (∀ (s : State) (a : SmbAddr) (d c : Byte) (form : SensorForm), sensorSelects s a = false →
    ∀ i ∈ [Instr.rrt a, .rs a, .rc a, .rcr a, .rrhl a, .rrll a, .wc a d, .wcr a d, .wrhl a d, .wrll a d, .osht a,
        .receiveByte a, .sensorReservedCommand a c form],
      exec i s = .next { s with answer := [.nack] }) ∧
  (∀ s : State, (s.platform.smbusPower = false ∨ s.sensor.alertLatch = false) →
    exec .ara s = .next { s with answer := [.nack] }) ∧
  (∀ (s : State) (rest : List Input) (sel : EeSel) (da : Byte), selects s sel.sma = true →
    (s.Next (.packet (packetWrite (memoryAddress sel) [da])) rest →
      ∃ t, step s = .next t ∧ OnlySmbus s t ∧ t.sensor = s.sensor ∧ t.inputs = rest ∧ t.answer = [.ack, .ack] ∧
        t.eeprom sel.pirom = { s.eeprom sel.pirom with counter := da.extractLsb' 0 7 } ∧
        t.eeprom (!sel.pirom) = s.eeprom (!sel.pirom)) ∧
    (s.Next (.packet (packetWrite (memoryAddress sel) [])) rest →
      step s = .next { s with answer := [.ack], inputs := rest }))

/-! ### The sensor -/

/-- RRT, RC, RCR, RRHL and RRLL return TEMP, CONFIG, CONVRATE, THIGH and TLOW with no side effect but the command pointer
(R435, R436, R438 to R441). -/
def Obligations.SensorReads : Prop :=
  ∀ (s : State) (a : SmbAddr), sensorSelects s a = true →
    ∀ x ∈ [(Instr.rrt a, (0x01 : Byte), s.sensor.temp), (.rc a, 0x03, s.sensor.config),
        (.rcr a, 0x04, s.sensor.convrate), (.rrhl a, 0x07, s.sensor.thigh), (.rrll a, 0x08, s.sensor.tlow)],
      ∃ t, exec x.1 s = .next t ∧ OnlySensor s t ∧ t.answer = [.ack, .ack, .ack, .data x.2.2] ∧
        t.sensor = { s.sensor with cmdPointer := x.2.1, cmdValid := true }

/-- RS returns BUSY, RHIGH, RLOW and OPEN on bits 7, 4, 3 and 2; then each alarm bit is cleared unless its condition
holds, and the alert latch is not touched (R437, R462, R463). -/
def Obligations.StatusRead : Prop :=
  ∀ (s : State) (a : SmbAddr), sensorSelects s a = true →
    ∃ (t : State) (b : Byte), exec (.rs a) s = .next t ∧ OnlySensor s t ∧ t.answer = [.ack, .ack, .ack, .data b] ∧
      b.getLsbD 7 = s.sensor.converting ∧ b.getLsbD 4 = s.sensor.rhigh ∧ b.getLsbD 3 = s.sensor.rlow ∧
      b.getLsbD 2 = s.sensor.openFault ∧
      t.sensor = { s.sensor with
        cmdPointer := 0x02, cmdValid := true,
        rhigh := s.sensor.rhigh && decide (s.sensor.thigh.toInt ≤ s.sensor.temp.toInt),
        rlow := s.sensor.rlow && decide (s.sensor.temp.toInt ≤ s.sensor.tlow.toInt),
        openFault := s.sensor.openFault && s.sensor.openCond }

/-- WC with a legal byte: the value already held changes nothing but the command pointer; RUN/STOP = 1 abandons a
conversion and stops the timer; RUN/STOP = 0 out of standby starts the timer within one period (R442, R443, D34). WCR
with a rate of 00h to 07h, WRHL and WRLL write their register and evaluate no alarm (R444 to R446). -/
def Obligations.SensorWrites : Prop :=
  (∀ (s : State) (a : SmbAddr) (d : Byte), sensorSelects s a = true → d &&& 0xBF = 0 →
    ∃ t, exec (.wc a d) s = .next t ∧ OnlySensor s t ∧ t.answer = [.ack, .ack, .ack] ∧
      (if d = s.sensor.config then t.sensor = { s.sensor with cmdPointer := 0x09, cmdValid := false }
       else if d.getLsbD 6 = true then
         t.sensor = { s.sensor with cmdPointer := 0x09, cmdValid := false, config := d, converting := false,
                                    convLeft := 0, rateTimer := 0 }
       else if s.sensor.config.getLsbD 6 = true then
         ∃ r, r ≤ conversionPeriod s.sensor ∧
           t.sensor = { s.sensor with cmdPointer := 0x09, cmdValid := false, config := d, rateTimer := r }
       else t.sensor = { s.sensor with cmdPointer := 0x09, cmdValid := false, config := d })) ∧
  (∀ (s : State) (a : SmbAddr) (d : Byte), sensorSelects s a = true →
    (d.toNat ≤ 7 → ∃ t, exec (.wcr a d) s = .next t ∧ OnlySensor s t ∧ t.answer = [.ack, .ack, .ack] ∧
      t.sensor = { s.sensor with cmdPointer := 0x0A, cmdValid := false, convrate := d }) ∧
    (∃ t, exec (.wrhl a d) s = .next t ∧ OnlySensor s t ∧ t.answer = [.ack, .ack, .ack] ∧
      t.sensor = { s.sensor with cmdPointer := 0x0D, cmdValid := false, thigh := d }) ∧
    (∃ t, exec (.wrll a d) s = .next t ∧ OnlySensor s t ∧ t.answer = [.ack, .ack, .ack] ∧
      t.sensor = { s.sensor with cmdPointer := 0x0E, cmdValid := false, tlow := d }))

/-- OSHT is ignored during a conversion; in standby it starts one; between automatic conversions it starts one and the
rate timer begins anew (R448, R457). -/
def Obligations.OneShot : Prop :=
  ∀ (s : State) (a : SmbAddr), sensorSelects s a = true →
    ∃ t, exec (.osht a) s = .next t ∧ OnlySensor s t ∧ t.answer = [.ack, .ack] ∧ t.free = s.free ∧
      (if s.sensor.converting = true then t.sensor = { s.sensor with cmdPointer := 0x0F, cmdValid := false }
       else if s.sensor.config.getLsbD 6 = true then
         t.sensor = { s.sensor with cmdPointer := 0x0F, cmdValid := false, converting := true, convLeft := Config.tConv }
       else
         t.sensor = { s.sensor with cmdPointer := 0x0F, cmdValid := false, converting := true, convLeft := Config.tConv,
                                    rateTimer := conversionPeriod s.sensor })

/-- ARA: a sensor whose latch is set answers with its address and releases the latch; one that loses the transfer to a
lower address keeps it (R447, D16, D33). -/
def Obligations.AlertResponse : Prop :=
  ∀ (s : State) (own : SmbAddr), s.platform.smbusPower = true → s.sensor.alertLatch = true →
    own = sensorAddress s.platform.sma2 s.platform.sma1 →
    ((∀ r, s.platform.araRival = some r → own.toNat ≤ r.toNat) →
      exec .ara s = .next { s with sensor := { s.sensor with alertLatch := false },
                                   answer := [.ack, .data (own ++ 1#1)] }) ∧
    (∀ r, s.platform.araRival = some r → r.toNat < own.toNat → exec .ara s = .next { s with answer := [.ack] })

/-- RECEIVE_BYTE after a read byte packet returns the same register again, with the side effect of that command (R449);
with no such packet before it, it completes, and what the sensor holds afterwards is any value (D10, log 11). -/
def Obligations.ReceiveByte : Prop :=
  ∀ (s : State) (a : SmbAddr), sensorSelects s a = true →
    (s.sensor.cmdValid = true →
      (∀ x ∈ [((0x01 : Byte), s.sensor.temp), (0x03, s.sensor.config), (0x04, s.sensor.convrate),
          (0x07, s.sensor.thigh), (0x08, s.sensor.tlow)], s.sensor.cmdPointer = x.1 →
        ∃ t, exec (.receiveByte a) s = .next t ∧ OnlySensor s t ∧ t.sensor = s.sensor ∧
          t.answer = [.ack, .data x.2]) ∧
      (s.sensor.cmdPointer = 0x02 →
        ∃ (t u : State) (b : Byte), exec (.receiveByte a) s = .next t ∧ exec (.rs a) s = .next u ∧
          OnlySensor s t ∧ t.sensor = { u.sensor with cmdPointer := 0x02, cmdValid := true } ∧
          u.answer = [.ack, .ack, .ack, .data b] ∧ t.answer = [.ack, .data b])) ∧
    (s.sensor.cmdValid = false →
      ∃ (t : State) (b : Byte), exec (.receiveByte a) s = .next t ∧ OnlySensor s t ∧ t.answer = [.ack, .data b])

/-- An alarm bit is cleared only by a read of STATUS, and only when its condition has gone (R437, R466); what remains is
a receive byte the source leaves undefined (R449) and the sensor's own power-up (R431). -/
def Obligations.AlarmBitsClearedOnlyByStatusRead : Prop :=
  ∀ s t : State, step s = .next t →
    ((s.sensor.rhigh = true ∧ t.sensor.rhigh = false) ∨ (s.sensor.rlow = true ∧ t.sensor.rlow = false) ∨
      (s.sensor.openFault = true ∧ t.sensor.openFault = false)) →
    (∃ (items : List HostItem) (rest : List Input) (a : SmbAddr), s.Next (.packet items) rest ∧
      sensorSelects s a = true ∧
      (((decode s.platform.cells s.platform.smwp (.packet items) = .instr (.rs a) ∨
          (decode s.platform.cells s.platform.smwp (.packet items) = .instr (.receiveByte a) ∧ s.sensor.cmdValid = true ∧
            s.sensor.cmdPointer = 0x02)) ∧
        (s.sensor.rhigh = true → t.sensor.rhigh = false → s.sensor.temp.toInt < s.sensor.thigh.toInt) ∧
        (s.sensor.rlow = true → t.sensor.rlow = false → s.sensor.tlow.toInt < s.sensor.temp.toInt) ∧
        (s.sensor.openFault = true → t.sensor.openFault = false → s.sensor.openCond = false)) ∨
       (decode s.platform.cells s.platform.smwp (.packet items) = .instr (.receiveByte a) ∧ s.sensor.cmdValid = false))) ∨
    (∃ busy rest, s.Next (.smbusPower true busy) rest ∧ s.platform.smbusPower = false)

/-- The alert latch, and with it THRMALERT#, is released only by the ARA and by power-up (R468, R470); what remains is a
receive byte the source leaves undefined (R449). That THRMALERT# stands as the latch was left while the 3.3 V supply is off
is the model's choice (log 29): of the pin without its supply the source says nothing. -/
def Obligations.AlertLatchClearedOnlyByAra : Prop :=
  ∀ s t : State, step s = .next t → thrmalertOut s = true → thrmalertOut t = false →
    (∃ (items : List HostItem) (rest : List Input), s.Next (.packet items) rest ∧
      (decode s.platform.cells s.platform.smwp (.packet items) = .instr .ara ∨
        ∃ a, decode s.platform.cells s.platform.smwp (.packet items) = .instr (.receiveByte a) ∧ s.sensor.cmdValid = false)) ∨
    (∃ busy rest, s.Next (.smbusPower true busy) rest ∧ s.platform.smbusPower = false)

/-- The end of a conversion with a sound diode: TEMP is the reading in whole degrees, clamped to a signed byte, and the
alarms are evaluated on it; a bit that is set stays set (R457, R460, R462 to R464). The reading is the die temperature
both sensing paths share, and an error of any size (R350, R460, D22). Which way a half degree is rounded is log 14's. With an
open diode OPEN is set and TEMP is any value, on which the alarms are evaluated; OPEN itself does not set the alert latch
(R461, D9). In auto-convert mode a conversion starts when the rate timer runs out, and the timer is loaded with the period
(R455, R457); in standby none does. That in standby the timer stands still is DEDUCED, and that an interval is cut at what
happens first is the model's choice (log 14). -/
def Obligations.ConversionStartsAndEnds : Prop :=
  (∀ (s : State) (us : Nat) (error : Int) (rest : List Input) (T : Int), s.Next (.sensorTime us error) rest →
    s.platform.smbusPower = true → s.sensor.converting = true → s.sensor.convLeft ≤ us →
    T = max (-128) (min 127 ((1000 * s.platform.dieTemp + error + 500) / 1000)) →
    ∃ t, step s = .next t ∧ OnlySmbus s t ∧ t.pirom = s.pirom ∧ t.scratch = s.scratch ∧ t.answer = s.answer ∧
      (s.sensor.openCond = false → t.sensor.temp.toInt = T ∧ t.sensor.openFault = s.sensor.openFault) ∧
      (s.sensor.openCond = true → t.sensor.openFault = true) ∧ t.sensor.converting = false ∧
      t.sensor.rhigh = (s.sensor.rhigh || decide (s.sensor.thigh.toInt ≤ t.sensor.temp.toInt)) ∧
      t.sensor.rlow = (s.sensor.rlow || decide (t.sensor.temp.toInt ≤ s.sensor.tlow.toInt)) ∧
      t.sensor.alertLatch = (s.sensor.alertLatch || decide (s.sensor.thigh.toInt ≤ t.sensor.temp.toInt) ||
        decide (t.sensor.temp.toInt ≤ s.sensor.tlow.toInt)) ∧
      t.sensor.config = s.sensor.config ∧ t.sensor.convrate = s.sensor.convrate ∧ t.sensor.thigh = s.sensor.thigh ∧
      t.sensor.tlow = s.sensor.tlow ∧ t.sensor.cmdPointer = s.sensor.cmdPointer ∧
      t.sensor.cmdValid = s.sensor.cmdValid) ∧
  (∀ (s : State) (us : Nat) (error : Int) (rest : List Input), s.Next (.sensorTime us error) rest →
    s.platform.smbusPower = true → s.sensor.converting = false →
    ∃ t, step s = .next t ∧ t = { s with sensor := t.sensor, inputs := rest, free := t.free } ∧
      t.sensor =
        (if s.sensor.config.getLsbD 6 = true then s.sensor
         else if us < s.sensor.rateTimer then { s.sensor with rateTimer := s.sensor.rateTimer - us }
         else { s.sensor with converting := true, convLeft := Config.tConv, rateTimer := conversionPeriod s.sensor }))

/-- The application of SMBus power resets the sensor and nothing else loses a byte (R431, R61, R90). -/
def Obligations.SmbusPowerUp : Prop :=
  ∀ (s : State) (busy : Bool) (rest : List Input), s.Next (.smbusPower true busy) rest →
    s.platform.smbusPower = false →
    ∃ t, step s = .next t ∧ t.sensor.config = 0x00 ∧ t.sensor.convrate = 0x02 ∧ t.sensor.thigh = 0x7F ∧
      t.sensor.tlow = 0xC9 ∧ t.sensor.cmdPointer = 0x00 ∧ t.sensor.cmdValid = false ∧ t.sensor.rhigh = false ∧
      t.sensor.rlow = false ∧ t.sensor.openFault = false ∧ t.sensor.alertLatch = false ∧
      t.pirom.mem = s.pirom.mem ∧ t.scratch.mem = s.scratch.mem ∧ t.core = s.core ∧ t.bus = s.bus ∧ t.mem = s.mem ∧
      t.thermal = s.thermal

/-! ### System bus requests -/

/-- A well-formed memory request enters the in-order queue at the end of its request phase, and nothing else changes but
that the own request phase is over (R600, R608 to R612, R622). So does a well-formed Interrupt Acknowledge, I/O Read, I/O
Write or Special; of a Special the code on BE[7:0]# is read next (R602, R603, R606, R607, R164). -/
def Obligations.RequestsEnterTheQueue : Prop :=
  (∀ (s : State) (r : Request) (asz : BitVec 2) (bit : BitVec 1) (len : BitVec 3),
    ∀ x ∈ [(Instr.memReadInvalidate r asz len, BusRow.memReadInvalidate, false, len),
        (.memRead r asz bit len, .memRead, bit == 1, len), (.memWrite r asz bit len, .memWrite, bit == 1, len),
        (.memReadCurrent r asz len, .memReadCurrent, false, len),
        (.cacheLineReplacement r asz bit, .cacheLineReplacement, bit == 1, 0)],
      x.1.wf = true →
      ∃ t, exec x.1 s = .next t ∧ OnlyQueue s t ∧ Enters s t x.2.1 r x.2.2.1 x.2.2.2) ∧
  (∀ (s : State) (r : Request) (low : BitVec 3), r.malformed = none →
    (∀ x ∈ [(Instr.interruptAcknowledge r, BusRow.interruptAcknowledge), (.ioRead r low, .ioRead),
        (.ioWrite r low, .ioWrite)],
      ∃ t, exec x.1 s = .next t ∧ OnlyQueue s t ∧ Enters s t x.2 r false 0) ∧
    (∃ t, exec (.special r) s = .next t ∧ Enters s t .special r false 0 ∧ t.special = some r ∧
      OnlyQueue s { t with special := s.special }))

/-- An Interrupt transaction is delivered with its vector to the processor it addresses and to no other (R604); a Purge
TC of another processor makes this one assert TND#, its own does not (R605, R664). That the interrupt reaches the core
when its request phase is observed is the model's choice (log 16), that target and vector are opaque functions of the
clock-a address is D36's (log 23), and that TND# is asserted from that clock on is D37's. -/
def Obligations.InterruptAndPurgeObserved : Prop :=
  ∀ (s : State) (r : Request), r.malformed = none →
    (∃ t, exec (.interrupt r) s = .next t ∧ Enters s t .interrupt r false 0 ∧
      OnlyQueue s { t with core := s.core } ∧
      t.core = { s.core with pending := { s.core.pending with ext := t.core.pending.ext } } ∧
      t.core.pending.ext = (if Config.interruptTarget r.addr = s.bus.arbId
        then s.core.pending.ext ++ [Config.interruptVector r.addr] else s.core.pending.ext)) ∧
    (∃ t, exec (.purgeTc r) s = .next t ∧ Enters s t .purgeTc r false 0 ∧
      t = { s with bus := { s.bus with ioq := t.bus.ioq, issuing := t.bus.issuing, tlbPurging := t.bus.tlbPurging } } ∧
      (r.isOwn s.bus.arbId = false → tndOut t.bus = true) ∧
      (r.isOwn s.bus.arbId = true → t.bus.tlbPurging = s.bus.tlbPurging))

/-- A Deferred Reply takes up the deferred transaction of the identifier on Aa[25:16], which is deferred no longer; no other
entry of the table is touched (R601). That it does so whatever its reserved BE[7:0]# carries is the model's choice (R170, log
21). R601 gives the match only: that a reply whose identifier matches nothing is queued
as a transaction of its own, without further effect, is the model's choice (log 30). A deferred phase does the same in two
clocks: IDS# with the identifier, then DHIT#, which is the final cache status (R171, R626); that its transaction is taken up
at the end of the queue with a normal response is the model's choice (log 16), and so is that a phase whose identifier
matches nothing, or whose transaction came without DPS#, is ignored (R626, log 30). -/
def Obligations.DeferredCompletion : Prop :=
  (∀ (s : State) (q : Pins), s.bus.idLatch = none →
    deferredPhase q s = { s with bus := { s.bus with idLatch := if q.ids then some q.id else none } }) ∧
  (∀ (s : State) (q : Pins) (ida : Did), s.bus.idLatch = some ida →
    (∀ x, findDeferred s.bus.deferred ida = some x → x.req.b.dps = true →
      ∃ (t : State) (y : Txn), deferredPhase q s = t ∧ t.bus.ioq = s.bus.ioq ++ [y] ∧
        y.row = x.row ∧ y.req = x.req ∧ y.len = x.len ∧ y.src = x.src ∧ y.reply = true ∧
        y.snoop = some { hit := q.id.getLsbD 2, hitm := false, defer := false, gseq := false } ∧
        y.response = some .normal ∧ y.got = 0 ∧ (y.bilLine = true → y.isBil = true) ∧
        (∃ pre post, s.bus.deferred = pre ++ (ida, x) :: post ∧ t.bus.deferred = pre ++ post ∧ ∀ p ∈ pre, p.1 ≠ ida) ∧
        t = { s with bus := { s.bus with ioq := t.bus.ioq, deferred := t.bus.deferred,
                                         idLatch := if q.ids then some q.id else none } }) ∧
    ((∀ x, findDeferred s.bus.deferred ida = some x → x.req.b.dps = false) →
      deferredPhase q s = { s with bus := { s.bus with idLatch := if q.ids then some q.id else none } })) ∧
  ∀ (s : State) (r : Request) (low : BitVec 3), r.malformedAttr = none →
    (∀ x, findDeferred s.bus.deferred (r.addr.extractLsb' 13 10) = some x →
      ∃ (t : State) (y : Txn), exec (.deferredReply r low) s = .next t ∧ t.bus.ioq = s.bus.ioq ++ [y] ∧
        y.row = x.row ∧ y.req = x.req ∧ y.len = x.len ∧ y.src = x.src ∧ y.reply = true ∧ y.snoop = none ∧
        y.response = none ∧
        (∃ pre post, s.bus.deferred = pre ++ (r.addr.extractLsb' 13 10, x) :: post ∧ t.bus.deferred = pre ++ post ∧
          ∀ p ∈ pre, p.1 ≠ r.addr.extractLsb' 13 10) ∧
        ((s.bus.deferred.map (·.1)).Nodup → findDeferred t.bus.deferred (r.addr.extractLsb' 13 10) = none) ∧
        (∀ d, d ≠ r.addr.extractLsb' 13 10 → findDeferred t.bus.deferred d = findDeferred s.bus.deferred d) ∧
        t = { s with bus := { s.bus with ioq := t.bus.ioq, deferred := t.bus.deferred } }) ∧
    (findDeferred s.bus.deferred (r.addr.extractLsb' 13 10) = none →
      ∃ t, exec (.deferredReply r low) s = .next t ∧ OnlyQueue s t ∧ Enters s t .deferredReply r false 0)

/-- A request that breaks a rule is not run: ASZ at odds with A[49:36] or reserved (R102), a reserved ATTR (R103), a
symmetric agent's DSZ other than 01 (R107), a reserved LEN (R106), a transfer of 16 bytes or more that is not
naturally aligned (R108). Which rows have ATTR and DSZ checked is DEDUCED (log 21); that a reserved LEN is refused, and
which refusal comes first where several rules are broken, is the model's choice (log 21). -/
def Obligations.MalformedRequestsStop : Prop :=
  ∀ (s : State) (r : Request) (asz : BitVec 2) (bit : BitVec 1) (len low : BitVec 3),
    (∀ i ∈ [Instr.memReadInvalidate r asz len, .memRead r asz bit len, .memWrite r asz bit len,
        .memReadCurrent r asz len],
      (aszLegal r.addr asz = false → exec i s = .refused .aszReserved) ∧
      (aszLegal r.addr asz = true → attrLegal r.b.attr = false → exec i s = .refused .attrReserved) ∧
      (aszLegal r.addr asz = true → attrLegal r.b.attr = true → dszLegal r.b.did r.dsz = false →
        exec i s = .refused .dszReserved) ∧
      (aszLegal r.addr asz = true → attrLegal r.b.attr = true → dszLegal r.b.did r.dsz = true → 4 < len.toNat →
        exec i s = .refused .lenReserved) ∧
      (aszLegal r.addr asz = true → attrLegal r.b.attr = true → dszLegal r.b.did r.dsz = true → len.toNat ≤ 4 →
        r.addr.toNat % 2 ^ len.toNat ≠ 0 → exec i s = .refused .misaligned)) ∧
    (∀ i ∈ [Instr.interruptAcknowledge r, .special r, .interrupt r, .purgeTc r, .ioRead r low, .ioWrite r low],
      (attrLegal r.b.attr = false → exec i s = .refused .attrReserved) ∧
      (attrLegal r.b.attr = true → dszLegal r.b.did r.dsz = false → exec i s = .refused .dszReserved)) ∧
    ((aszLegal r.addr asz = false → exec (.cacheLineReplacement r asz bit) s = .refused .aszReserved) ∧
      (aszLegal r.addr asz = true → attrLegal r.b.attr = false →
        exec (.cacheLineReplacement r asz bit) s = .refused .attrReserved) ∧
      (aszLegal r.addr asz = true → attrLegal r.b.attr = true → dszLegal r.b.did r.dsz = false →
        exec (.cacheLineReplacement r asz bit) s = .refused .dszReserved)) ∧
    (attrLegal r.b.attr = false → exec (.deferredReply r low) s = .refused .attrReserved)

/-- What the source reserves is refused: the reserved rows of Table A-10 (R613), the reserved special codes (R621), a
reserved or misplaced command to the sensor (R450), a reserved CONFIG bit (R77), a reserved conversion rate (R78). -/
def Obligations.ReservedIsRefused : Prop :=
  (∀ (s : State) (r : Request) (x : BitVec 1) (xx asz : BitVec 2) (low : BitVec 3),
    ∀ i ∈ [Instr.reservedReq000001 r low, .reservedReq00100001x r x, .reservedReq0010010xx r xx,
        .reservedReq00100111x r x, .reservedReq01100x r x low, .reservedReq0Asz011 r asz low,
        .reservedReq1Asz100 r asz low],
      exec i s = .refused .reservedRequest) ∧
  (∀ (s : State) (r : Request), exec (.specialReserved r) s = .refused .reservedSpecial) ∧
  (∀ (s : State) (a : SmbAddr) (c d : Byte) (form : SensorForm), sensorSelects s a = true →
    exec (.sensorReservedCommand a c form) s = .refused .reservedCommand ∧
    (d &&& 0xBF ≠ 0 → exec (.wc a d) s = .refused .reservedValue) ∧
    (7 < d.toNat → exec (.wcr a d) s = .refused .reservedValue))

/-- A special transaction whose code has been read is known by its kind, and nothing else changes (R614 to R620). -/
def Obligations.SpecialsAreKnownByTheirKind : Prop :=
  ∀ (s : State) (r : Request) (q : List Txn) (x : Txn), s.bus.ioq = q ++ [x] →
    ∀ y ∈ [(Instr.specialNop r, SpecialKind.nop), (.specialShutdown r, .shutdown), (.specialFlush r, .flush),
        (.specialHalt r, .halt), (.specialSync r, .sync), (.specialStopgrantAck r, .stopgrantAck),
        (.specialXtprUpdate r, .xtprUpdate)],
      exec y.1 s = .next { s with bus := { s.bus with ioq := q ++ [{ x with special := some y.2 }] } }

/-! ### Core instructions -/

/-- FC: the line leaves the caches, no other line does; one memory transaction for it is handed over with FCL#: a Memory
Write of the line where it is held modified, else a Memory Read & Invalidate of length zero (R661, G9). WSNP# and the
128 bytes of the write, the byte enables of 0 of the other, that the line leaves the caches at once, and that an
invalidate is issued also where the line is not held, are the model's choice (log 22). If another agent's transaction takes
the line before the write is issued, the write is void and the flush goes on as a Memory Read & Invalidate of length zero
with FCL#, which is the model's choice too (log 17: R661 speaks only of the line as the instruction finds it); no other
request handed over is lost by it. -/
def Obligations.FlushCache : Prop :=
  (∀ (s : State) (line : LineAddr),
    ∃ (t : State) (q : OutReq) (r : Request), exec (.fc line) s = .next t ∧ OnlyCore s t ∧
      t.core = { s.core with cache := t.core.cache, pc := t.core.pc } ∧ findLine t.core.cache line = none ∧
      (∀ l, l ≠ line → findLine t.core.cache l = findLine s.core.cache l) ∧ t.bus.outQ = s.bus.outQ ++ [q] ∧
      q.instr.request = some r ∧ q.instr.wf = true ∧ lineOf r.addr = line ∧ r.b.fcl = true ∧
      (match findLine s.core.cache line with
        | some c => if c.modified = true then (∃ asz, q.instr = .memWrite r asz 1 0b100) ∧ q.data = c.data
                    else ∃ asz, q.instr = .memReadInvalidate r asz 0 ∧ r.b.be = 0
        | none => ∃ asz, q.instr = .memReadInvalidate r asz 0 ∧ r.b.be = 0)) ∧
  ∀ (s : State) (x : Txn) (rest : List Txn), s.bus.ioq = x :: rest → x.supplies = true →
    x.response = some .normal ∨ x.response = some .implicitWriteback → x.totalWords ≤ x.got →
    ∀ q ∈ s.bus.outQ,
      (q.purpose = .flush → pendingWriteback [q] (lineOf x.req.addr) ≠ none →
        ∃ w ∈ (retire s).bus.outQ, ∃ (u : Request) (asz : BitVec 2), w.instr = .memReadInvalidate u asz 0 ∧
          w.instr.wf = true ∧ w.purpose = .flush ∧ u.b.fcl = true ∧ u.b.be = 0 ∧ lineOf u.addr = lineOf x.req.addr) ∧
      (pendingWriteback [q] (lineOf x.req.addr) = none → q ∈ (retire s).bus.outQ)

/-- CPUID returns the constants of the unit and changes nothing else (R36, R662); how the four fields lie in the value is
log 15's. STOPGRANT_ACK issues nothing (R667). XTPR_UPDATE changes the task priority and broadcasts both values (R620,
R670). HALT and SHUTDOWN hand over their special transaction and the core stops executing; the bus agent goes on (R665,
R666). That it stops also with an INIT#, a PMI# or an NMI already pending is the model's choice (log 28), and so is that an
XTPR_UPDATE with the values already held is broadcast (log 41). -/
def Obligations.CoreControlInstructions : Prop :=
  (∀ (s : State) (reg : CpuidReg),
    ∃ t, exec (.cpuid reg) s = .next t ∧ OnlyCore s t ∧ t.bus.outQ = s.bus.outQ ∧
      t.core = { s.core with cpuidOut := t.core.cpuidOut, pc := t.core.pc } ∧
      (match reg with
        | .id3 => t.core.cpuidOut.extractLsb' 0 8 = s.platform.cpuid3.revision ∧
            t.core.cpuidOut.extractLsb' 8 8 = s.platform.cpuid3.model ∧
            t.core.cpuidOut.extractLsb' 16 8 = s.platform.cpuid3.family ∧
            t.core.cpuidOut.extractLsb' 24 8 = s.platform.cpuid3.archrev
        | .ia32Features => t.core.cpuidOut.toNat = s.platform.ia32Features.toNat
        | .ipfFeatures => t.core.cpuidOut = s.platform.ipfFeatures)) ∧
  (∀ (s : State) (value : BitVec 4) (disable : Bool),
    (∃ t, exec .stopgrantAck s = .next t ∧ OnlyCore s t ∧ t.core = { s.core with pc := t.core.pc } ∧
      t.bus.outQ = s.bus.outQ) ∧
    (∃ (t : State) (r : Request) (q : OutReq), exec (.xtprUpdate value disable) s = .next t ∧ OnlyCore s t ∧
      t.core = { s.core with xtprValue := value, xtprDisable := disable, pc := t.core.pc } ∧
      t.bus.outQ = s.bus.outQ ++ [q] ∧ q.instr = .special r ∧ q.instr.wf = true ∧ r.b.be = 0x08 ∧
      r.b.xtprValue = value ∧ r.b.xtprDisable = BitVec.ofBool disable)) ∧
  (∀ s : State,
    ∀ x ∈ [(Instr.halt, RunState.halted, (0x03 : BitVec 8)), (.shutdown, .shutdown, 0x01)],
      ∃ (t : State) (r : Request) (q : OutReq), exec x.1 s = .next t ∧ OnlyCore s t ∧
        t.core = { s.core with run := x.2.1, pc := t.core.pc } ∧ t.bus.outQ = s.bus.outQ ++ [q] ∧
        q.instr = .special r ∧ q.instr.wf = true ∧ r.b.be = x.2.2 ∧ t.coreReady = false ∧ t.onBus = s.onBus)

/-- EOI ends the NMI service routine; an NMI held pending is pending no longer and is recognised then (R663, R712, R713).
That EOI outside an NMI service routine changes nothing is DEDUCED (log 28). -/
def Obligations.EndOfInterrupt : Prop :=
  ∀ s : State,
    ∃ t, exec .eoi s = .next t ∧ OnlyCore s t ∧ t.bus.outQ = s.bus.outQ ∧
      (if s.core.nmiInService = true then
         if s.core.nmiPending = true then
           t.core = { s.core with nmiPending := false, nmiInService := false, pc := t.core.pc,
                                  pending := { s.core.pending with nmi := true } }
         else t.core = { s.core with nmiInService := false, pc := t.core.pc }
       else t.core = { s.core with pc := t.core.pc })

/-- TLB_PURGE: the overlapping entries are gone and no others, a Purge TC is handed over, and the core waits for it on the
bus; its completion leaves the core waiting for TND#; TND# sampled deasserted ends the wait, and nothing but that lets the
core execute again, as long as it does not wait for an interrupt vector as well (R664, R566, D37). A processor that carries
out a purge of another drops the overlapping entries and no others, and releases TND# with the last such purge (R605,
R664). That a range, and a TLB entry, is a closed interval of 64-bit addresses is the model's choice (log 42), that there may
be several such purges as well (log 40), and so is that the purge stands still, TND# with it, while the processor takes no
part in the bus, PWRGOOD low among it (R771, log 18). -/
def Obligations.TlbPurge : Prop :=
  (∀ (s : State) (range : PurgeRange),
    ∃ (t : State) (r : Request) (q : OutReq), exec (.tlbPurge range) s = .next t ∧ OnlyCore s t ∧
      t.core = { s.core with tlb := t.core.tlb, wait := .purgeBus, pc := t.core.pc } ∧
      (∀ x, x ∈ t.core.tlb ↔ x ∈ s.core.tlb ∧
        (range.last.toNat < x.first.toNat ∨ x.last.toNat < range.first.toNat)) ∧
      t.bus.outQ = s.bus.outQ ++ [q] ∧ q.instr = .purgeTc r ∧ q.instr.wf = true ∧ q.purpose = .purge ∧
      r.addr = Config.purgePins range.first range.last ∧ t.coreReady = false) ∧
  (∀ (s : State) (x : Txn) (q : OutReq) (rest : List Txn), s.bus.ioq = x :: rest → x.row = .purgeTc →
    x.src = some q → q.purpose = .purge → x.response = some .normal → x.dataDone = true → s.core.wait = .purgeBus →
    (retire s).bus.ioq = rest ∧ (retire s).core = { s.core with wait := .purgeTnd } ∧ (retire s).coreReady = false) ∧
  (∀ (s : State) (q : Pins),
    (s.core.wait = .purgeTnd → q.tnd = false → sampleTnd q s = { s with core := { s.core with wait := .none } }) ∧
    (s.core.wait ≠ .purgeTnd ∨ q.tnd = true → sampleTnd q s = s)) ∧
  (∀ s t : State, step s = .next t → (s.core.wait = .purgeBus ∨ s.core.wait = .purgeTnd) →
    (∀ x ∈ s.bus.ioq ++ s.bus.deferred.map (·.2), ∀ q, x.src = some q → q.purpose ≠ .intAck) → t.coreReady = true →
    s.core.wait = .purgeTnd ∧ ∃ p rest, s.Next (.clock p) rest ∧ (merged s p).tnd = false) ∧
  (∀ (s : State) (rest : List Input) (range : PurgeRange) (others : List PurgeRange), s.Next .purgeDone rest →
    s.bus.tlbPurging = range :: others →
    (s.onBus = false → step s = .next { s with inputs := rest }) ∧
    (s.onBus = true →
      ∃ t, step s = .next t ∧ (tndOut t.bus = true ↔ others ≠ []) ∧
        t = { s with inputs := rest, core := { s.core with tlb := t.core.tlb },
                     bus := { s.bus with tlbPurging := others } } ∧
        (∀ x, x ∈ t.core.tlb ↔ x ∈ s.core.tlb ∧
          (range.last.toNat < x.first.toNat ∨ x.last.toNat < range.first.toNat))))

/-- INVD discards every line and announces Flush; WBINVD hands over a 128-byte write of every modified line, then Sync,
which waits for them (R668, R669, G9). That the writes carry WSNP# is the model's choice (log 22). -/
def Obligations.InvdAndWbinvd : Prop :=
  ∀ s : State,
    (∃ (t : State) (r : Request) (q : OutReq), exec .invd s = .next t ∧ OnlyCore s t ∧
      t.core = { s.core with cache := [], pc := t.core.pc } ∧ t.bus.outQ = s.bus.outQ ++ [q] ∧
      q.instr = .special r ∧ q.instr.wf = true ∧ r.b.be = 0x02) ∧
    (∃ (t : State) (r : Request) (q : OutReq) (ws : List OutReq), exec .wbinvd s = .next t ∧ OnlyCore s t ∧
      t.core = { s.core with cache := [], pc := t.core.pc } ∧ t.bus.outQ = s.bus.outQ ++ ws ++ [q] ∧
      q.instr = .special r ∧ q.instr.wf = true ∧ r.b.be = 0x04 ∧ q.barrier = true ∧
      ws.length = (s.core.cache.filter (·.modified)).length ∧
      (∀ c ∈ s.core.cache, c.modified = true → ∃ w ∈ ws, ∃ (u : Request) (asz : BitVec 2),
        w.instr = .memWrite u asz 1 0b100 ∧ w.instr.wf = true ∧ lineOf u.addr = c.line ∧ w.data = c.data))

/-- LOAD_STORE_FETCH of an address below 2^50, naturally aligned where it is of 16 bytes or more: its bus image is handed
over, with its byte enables, its EXF bits and, for a write, the bytes of the value on their lanes in the core's byte
order: of a partial access those its byte enables name, in the half of the bus A[3]# selects (R101 to R108, R117, R167,
R671). What the core does with an address no pin carries or with a misaligned access is not in the source (R101, R108,
R700): the fault and the refusal are the model's choice (log 36). So are the byte enables of a longer access, which are not
used (R106, log 23), and what the lanes of a partial access carry that no byte enable names: in little-endian order, where
the clause runs over all eight lanes, the bytes the core handed over with the value (R517, log 16). -/
def Obligations.LoadStoreFetch : Prop :=
  ∀ (s : State) (a : Access) (len : BitVec 3) (n : Nat),
    (len, n) = (match a.kind, a.len with
      | .ioRead, _ => (0, 1)
      | .ioWrite, _ => (0, 1)
      | _, .partial8 => (0, 1)
      | _, .bytes16 => (1, 16)
      | _, .bytes32 => (2, 32)
      | _, .bytes64 => (3, 64)
      | _, .bytes128 => (4, 128)) →
    (a.addr.toNat < 2 ^ 50 → a.addr.toNat % n = 0 →
      ∃ (t : State) (q : OutReq) (r : Request) (asz : BitVec 2), exec (.loadStoreFetch a) s = .next t ∧
        OnlyCore s t ∧ t.core = { s.core with pc := t.core.pc } ∧ t.bus.outQ = s.bus.outQ ++ [q] ∧
        q.instr.wf = true ∧ 8 * r.addr.toNat = a.addr.toNat / 8 * 8 ∧ r.dsz = 0b01 ∧ r.b.dps = true ∧
        r.b.den = a.deferrable ∧ r.b.exf2 = a.exf2 ∧ r.b.fcl = false ∧ r.b.attr = a.memType.code ∧
        r.b.be = (if n = 1 then a.be else 0xFF) ∧ q.endian = a.endian ∧
        (n = 1 → a.endian = .little → ∀ k < 8,
          laneByte q.data ((if r.addr.getLsbD 0 then 8 else 0) + k) = laneByte a.data k) ∧
        (n = 1 → a.endian = .big → ∀ (enabled : List Nat) (j : Nat), enabled = (List.range 8).filter a.be.getLsbD →
          j < enabled.length →
          laneByte q.data ((if r.addr.getLsbD 0 then 8 else 0) + enabled.getD j 0) =
            laneByte a.data (enabled.getD (enabled.length - 1 - j) 0)) ∧
        (1 < n → ∀ k < n,
          laneByte q.data k = laneByte a.data (if a.endian = .little then k else n - 1 - k)) ∧
        (a.kind = .load → q.instr = .memRead r asz 1 len) ∧ (a.kind = .fetch → q.instr = .memRead r asz 0 len) ∧
        (a.kind = .store → q.instr = .memWrite r asz (BitVec.ofBool a.snooped) len) ∧
        (a.kind = .ioRead → q.instr = .ioRead r 0) ∧ (a.kind = .ioWrite → q.instr = .ioWrite r 0)) ∧
    (a.addr.toNat < 2 ^ 50 → a.addr.toNat % n ≠ 0 → exec (.loadStoreFetch a) s = .refused .misaligned) ∧
    (2 ^ 50 ≤ a.addr.toNat → exec (.loadStoreFetch a) s = .fault .physicalAddress)

/-! ### Events -/

/-- Taking an event saves the pc and the interruption state, goes to the handler and masks INT; entering an NMI service
routine puts NMI in service (R39, R705); the return restores what was saved and leaves the rest (R731, R733, D7). -/
def Obligations.TakeAndReturn : Prop :=
  ∀ (c : Core) (e : Event) (v : Byte) (d : Core),
    c.take e v = { c with pc := Config.handlerEntry e.number v, intMasked := true,
                          saved := (c.take e v).saved, nmiInService := c.nmiInService || e == .nmi } ∧
    (d.saved = (c.take e v).saved →
      d.ret = { d with pc := c.pc, intMasked := c.intMasked, saved := c.saved })

/-- The pending event of the highest rank is taken first: machine check, PMI#, INIT#, NMI with vector 2, CMCI; INT being
masked holds none of these back (R705, R706, R711, D24). While it is masked, INT and what the log puts in its class wait
(R703, log 19). Not masked, and with none of the others pending, the interrupt of an Interrupt transaction is taken with its
vector (R604, R731), the greatest first, outside every handler or in that of a smaller vector (R711, R733); with no such
vector and no INT another local interrupt of LINT0 or LINT1 is, outside every handler (R707, R731), with a vector the source
does not state. That all of these are maskable, that vectors go before INT and INT before the other local interrupts, and
LINT0's before LINT1's, is the model's choice (log 19). -/
def Obligations.HighestEventIsTaken : Prop :=
  (∀ (s : State) (rest : List Input) (p : Pending), s.Next .coreInterrupt rest → s.coreReady = true →
    p = s.core.pending →
    ∀ x ∈ [(p.mca = true, Event.mca, (0 : Byte)), (p.mca = false ∧ p.pmi = true, .pmi, 0),
        (p.mca = false ∧ p.pmi = false ∧ p.init = true, .init, 0),
        (p.mca = false ∧ p.pmi = false ∧ p.init = false ∧ p.nmi = true, .nmi, 2),
        (p.mca = false ∧ p.pmi = false ∧ p.init = false ∧ p.nmi = false ∧ 0 < p.cmci, .cmci, 0)],
      x.1 →
      ∃ t, step s = .next t ∧ t = { s with core := t.core, inputs := rest, free := t.free } ∧
        t.core.pc = Config.handlerEntry x.2.1.number x.2.2 ∧ t.core.intMasked = true ∧
        t.core.saved = { pc := s.core.pc, intMasked := s.core.intMasked, event := x.2.1, vector := x.2.2 } ::
          s.core.saved ∧
        t.core.nmiInService = (s.core.nmiInService || x.2.1 == .nmi) ∧
        t.core.gr = s.core.gr ∧ t.core.cache = s.core.cache ∧
        t.core.pending = (match x.2.1 with
          | .mca => { p with mca := false }
          | .pmi => { p with pmi := false }
          | .init => { p with init := false }
          | .nmi => { p with nmi := false }
          | _ => { p with cmci := p.cmci - 1 })) ∧
  (∀ (s : State) (rest : List Input), s.Next .coreInterrupt rest → s.core.intMasked = true →
    s.core.pending.mca = false → s.core.pending.pmi = false → s.core.pending.init = false →
    s.core.pending.nmi = false → s.core.pending.cmci = 0 → step s = .next { s with inputs := rest }) ∧
  (∀ (s : State) (rest : List Input) (p : Pending), s.Next .coreInterrupt rest → s.coreReady = true →
    p = s.core.pending → s.core.intMasked = false → p.mca = false → p.pmi = false → p.init = false → p.nmi = false →
    p.cmci = 0 →
    (∀ v ∈ p.ext, (∀ w ∈ p.ext, w.toNat ≤ v.toNat) →
      (s.core.saved = [] ∨
        ∃ top more, s.core.saved = top :: more ∧ top.event = .ext ∧ top.vector.toNat < v.toNat) →
      ∃ t, step s = .next t ∧ t = { s with core := t.core, inputs := rest, free := t.free } ∧
        t.core = { s.core with
          pc := Config.handlerEntry 5 v, intMasked := true, pending := { p with ext := p.ext.erase v },
          saved := { pc := s.core.pc, intMasked := false, event := .ext, vector := v } :: s.core.saved }) ∧
    (p.ext = [] → (s.core.lint0 = .int → s.bus.lint0.seen = false) → s.core.saved = [] →
      (p.local0 = true → ∃ (t : State) (v : Byte), step s = .next t ∧
        t = { s with core := t.core, inputs := rest, free := t.free } ∧
        t.core = { s.core with
          pc := Config.handlerEntry 6 v, intMasked := true, pending := { p with local0 := false },
          saved := [{ pc := s.core.pc, intMasked := false, event := .local0, vector := v }] }) ∧
      (p.local0 = false → p.local1 = true → ∃ (t : State) (v : Byte), step s = .next t ∧
        t = { s with core := t.core, inputs := rest, free := t.free } ∧
        t.core = { s.core with
          pc := Config.handlerEntry 7 v, intMasked := true, pending := { p with local1 := false },
          saved := [{ pc := s.core.pc, intMasked := false, event := .local1, vector := v }] })))

/-- NMI is rising-edge sensitive; within its service routine at most one assertion is held pending; otherwise it is
recognised, masked or not (R705, R712). A halted core is woken by it (R665, G9; DEDUCED, log 28). With LINT1 disabled, or
without an edge, nothing happens (R707). That an assertion held pending in the routine does not wake a core that has halted
there is the model's choice (R665, R712, log 28). -/
def Obligations.NmiEdge : Prop :=
  ∀ (s t : State) (q : Pins), t = samplePins q s → s.bus.pmi.rose t.bus.pmi = false →
    s.bus.init.rose t.bus.init = false → s.bus.lint0.rose t.bus.lint0 = false → s.core.lint0 = .disabled →
    (s.core.lint1 = .nmi → s.bus.lint1.rose t.bus.lint1 = true → s.core.nmiInService = true →
      t.core = { s.core with nmiPending := true }) ∧
    (s.core.lint1 = .nmi → s.bus.lint1.rose t.bus.lint1 = true → s.core.nmiInService = false →
      t.core = { s.core with pending := { s.core.pending with nmi := true }, run := t.core.run } ∧
      (s.core.run = .halted → t.core.run = .running) ∧ (s.core.run ≠ .halted → t.core.run = s.core.run)) ∧
    ((s.core.lint1 = .disabled ∨ s.bus.lint1.rose t.bus.lint1 = false) → t.core = s.core)

/-- INIT# is recognised whatever is masked, wakes a halted and a shut-down core, and initialises no state: everything but
the pending event, the run state and the sampled pins is as before, the rotating ID, the owner, the queues, the thermal
state and the SMBus devices among it (R665, R666, R706). PMI# is recognised whatever is masked and wakes a halted core
(R665, R702); that it leaves a shut-down one is DEDUCED (log 28). -/
def Obligations.InitAndPmiEdge : Prop :=
  ∀ (s t : State) (q : Pins), t = samplePins q s → s.core.lint0 = .disabled → s.core.lint1 = .disabled →
    t = { s with core := t.core,
                 bus := { s.bus with lint0 := t.bus.lint0, lint1 := t.bus.lint1, init := t.bus.init, pmi := t.bus.pmi } } ∧
    (s.bus.init.rose t.bus.init = true → s.bus.pmi.rose t.bus.pmi = false →
      t.core = { s.core with pending := { s.core.pending with init := true }, run := t.core.run } ∧
      ((s.core.run = .halted ∨ s.core.run = .shutdown) → t.core.run = .running) ∧
      (s.core.run = .running ∨ s.core.run = .stopped → t.core.run = s.core.run)) ∧
    (s.bus.init.rose t.bus.init = false → s.bus.pmi.rose t.bus.pmi = true →
      t.core = { s.core with pending := { s.core.pending with pmi := true }, run := t.core.run } ∧
      (s.core.run = .halted → t.core.run = .running) ∧ (s.core.run ≠ .halted → t.core.run = s.core.run))

/-- The INT pin: not masked, with no event of a higher class pending and no vector waiting, the core outside every handler
asks for the vector by one Interrupt Acknowledge and waits (R703, R704); when that transaction is completed the byte on
lane 0 is the vector of the external interrupt it takes (R704, R731; one byte on lane 0 is D36's). -/
def Obligations.IntAsksForItsVector : Prop :=
  (∀ (s : State) (rest : List Input), s.Next .coreInterrupt rest → s.coreReady = true →
    s.core.pending = Pending.none → s.core.lint0 = .int → s.bus.lint0.seen = true → s.core.intMasked = false →
    s.core.saved = [] →
    ∃ (t : State) (q : OutReq) (r : Request), step s = .next t ∧ OnlyCore { s with inputs := rest } t ∧
      t.core = { s.core with wait := .intAck } ∧ t.coreReady = false ∧ t.bus.outQ = s.bus.outQ ++ [q] ∧
      q.instr = .interruptAcknowledge r ∧ q.instr.wf = true ∧ q.purpose = .intAck) ∧
  (∀ (s : State) (x : Txn) (q : OutReq) (rest : List Txn), s.bus.ioq = x :: rest → x.row = .interruptAcknowledge →
    x.src = some q → q.purpose = .intAck → x.response = some .normal → x.hitm = false → x.dataDone = true →
    ∃ t, retire s = t ∧ t.bus.ioq = rest ∧ t.core.wait = .none ∧ t.core.run = .running ∧
      t.core.pc = Config.handlerEntry 5 (laneByte x.buf 0) ∧ t.core.intMasked = true ∧
      t.core.saved = { pc := s.core.pc, intMasked := s.core.intMasked, event := .ext, vector := laneByte x.buf 0 } ::
        s.core.saved ∧
      t.core.pending = s.core.pending ∧ t.core.gr = s.core.gr ∧ t.mem = s.mem)

/-- BERR# sampled asserted, driven by this processor or by another agent, makes a machine check pending where sampling is
enabled, and nothing does where it is not; the clock goes on (R709). BERR# is driven by the requester of a transaction on
an internal error, and by an agent that observes an error in a bus transaction, where the configuration enables it
(R709, R720): a parity error, or an uncorrectable ECC error in a word transferred to this processor with ECC checking enabled
(R721); a clock with neither leaves it deasserted. That the ECC error of data for the own request is such an error, and any
other none, is the model's choice (log 20), and so is that BINIT# makes no machine check pending (R710, log 18), and that a
clock with a parity error goes on (R720, log 27). -/
def Obligations.BerrAndMachineCheck : Prop :=
  (∀ (s t : State) (p : Pins) (rest : List Input), s.Next (.clock p) rest → s.onBus = true → step s = .next t →
    t.core.pending.mca = (s.core.pending.mca || (s.bus.poc.opts.berrSample && (p.berr || s.bus.out.berr)))) ∧
  (∀ (s : State) (p : Pins) (rest : List Input), s.Next (.clock p) rest → s.onBus = true → contention s p = false →
    (merged s p).binit = false → s.bus.latchA = none →
    (parityError s (merged s p) = false ∨ s.bus.poc.opts.berrOnBus = true) →
    ∃ t, step s = .next t ∧ (parityError s (merged s p) = true → t.bus.out.berr = true) ∧
      (parityError s (merged s p) = false →
        (s.bus.poc.opts.eccCheck = false ∨ s.bus.poc.opts.berrOnBus = false ∨ p.drdy = false ∨
          ∀ i : Fin 4, p.ecc[i] ≠ .uncorrectable) → t.bus.out.berr = false)) ∧
  (∀ (s : State) (q : Pins) (x : Txn) (w : OutReq) (n : Nat) (o : PinsOut), x.row = .memRead → x.src = some w →
    x.hitm = false → x.response = some .normal → x.bilLine = false →
    n = (if x.len.toNat ≤ 1 then 1 else 2 ^ (x.len.toNat - 1)) → x.got < n → q.drdy = true →
    ∃ y p, dataStep s q x o = (y, p) ∧ p = { o with berr := p.berr } ∧
      (p.berr = true ↔ o.berr = true ∨ (s.bus.poc.opts.eccCheck = true ∧ s.bus.poc.opts.berrOnBus = true ∧
        (q.ecc[0] = .uncorrectable ∨ q.ecc[1] = .uncorrectable ∨
          (x.got + 2 ≤ n ∧ (q.ecc[2] = .uncorrectable ∨ q.ecc[3] = .uncorrectable)))))) ∧
  (∀ (s : State) (ferr : Bool) (rest : List Input), s.Next (.coreAct (.internalError ferr)) rest → s.onBus = true →
    ∃ t, step s = .next t ∧
      t.bus.out.berr = (s.bus.out.berr || (s.bus.poc.opts.berrOnInternal && isRequester s.bus)) ∧
      t = { s with inputs := rest,
                   bus := { s.bus with out := { s.bus.out with berr := t.bus.out.berr, ferr := t.bus.out.ferr } } })

/-! ### Bus clocks -/

/-- Arbitration: on a new arbitration event the bus goes to the first requester after the rotating ID, which becomes its
ID; a requesting owner keeps it; a release with no other requester leaves it idle (R632 to R635). -/
def Obligations.Arbitration : Prop :=
  ∀ (b c : Bus) (br : BitVec 3), c = b.arbitrate br →
    (∀ o, b.owner = some o → requestOf b br o = true → c = b) ∧
    ((∀ n, requestOf b br n = false) → c = { b with owner := none }) ∧
    ((∀ o, b.owner = some o → requestOf b br o = false) → (∃ n, requestOf b br n = true) →
      ∃ n, c = { b with owner := some n, rotatingId := n } ∧ requestOf b br n = true ∧
        ∀ m, requestOf b br m = true → (n - b.rotatingId - 1).toNat ≤ (m - b.rotatingId - 1).toNat)

/-- Address and request parity: low (asserted) if an odd number of the covered signals is low (R22, R172): AP[0]# covers
A[26:3]#, AP[1]# A[49:27]#, RP# ADS# and REQ[5:0]#, RSP# RS[2:0]#. -/
def Obligations.Parity : Prop :=
  (∀ a : AddrPins,
    ((addressParity a).getLsbD 0 = true ↔ ((List.range 24).filter fun k => a.getLsbD k).length % 2 = 1) ∧
    ((addressParity a).getLsbD 1 = true ↔ ((List.range 23).filter fun k => a.getLsbD (24 + k)).length % 2 = 1)) ∧
  (∀ (ads : Bool) (req : BitVec 6), requestParity ads req = true ↔
    ((if ads then 1 else 0) + ((List.range 6).filter fun k => req.getLsbD k).length) % 2 = 1) ∧
  (∀ rs : BitVec 3, responseParity rs = true ↔ ((List.range 3).filter fun k => rs.getLsbD k).length % 2 = 1)

/-- BINIT# sampled asserted with observation enabled: the bus state machines are as after reset; the caches, the core's
registers, the configuration and the memory are not affected (R642, R710, D40). That the request phase under way is given
up and every output deasserted, FERR# among them, that requests not yet issued are kept, that a purge carried out for
another processor goes on and that the count of clocks since the last ADS# starts again at 0 are the model's choice (log
18), and so is that the BINIT# goes before a parity error of its clock, which is neither refused nor answered with BERR#
(log 27). -/
def Obligations.BusInitialisation : Prop :=
  ∀ (s : State) (p : Pins) (rest : List Input), s.Next (.clock p) rest → s.onBus = true → contention s p = false →
    (p.binit = true ∨ s.bus.out.binit = true) → s.bus.poc.opts.binitObserve = true →
    ∃ t, step s = .next t ∧ t.bus.rotatingId = 3 ∧ t.bus.owner = none ∧ t.bus.breqOut = false ∧ t.bus.ioq = [] ∧
      t.bus.deferred = [] ∧ t.bus.latchA = none ∧ t.bus.issuing = [] ∧ t.bus.nextB = none ∧ t.bus.idLatch = none ∧
      t.bus.out = PinsOut.idle ∧ t.bus.breqLow = 1 ∧ t.bus.sinceAds = 0 ∧ t.bus.tlbPurging = s.bus.tlbPurging ∧
      t.bus.poc = s.bus.poc ∧ t.bus.arbId = s.bus.arbId ∧
      t.core.cache = s.core.cache ∧ t.core.gr = s.core.gr ∧ t.core.fr = s.core.fr ∧ t.core.pr = s.core.pr ∧
      t.core.pc = s.core.pc ∧ t.core.tlb = s.core.tlb ∧ t.core.saved = s.core.saved ∧
      t.core.intMasked = s.core.intMasked ∧ t.core.xtprValue = s.core.xtprValue ∧
      t.core.xtprDisable = s.core.xtprDisable ∧ t.bus.outQ = s.bus.outQ ∧ t.thermal = s.thermal ∧
      t.platform = s.platform ∧ t.mem = s.mem ∧ SmbusSame s t

/-- HIT# and HITM# of this processor tell what it holds of the line being snooped by a memory read, a read and
invalidate, a snooped write or a Cache Line Replacement with WSNP# (R165) of another agent: modified; or unmodified and kept,
which it is not by a read and invalidate, by a write or under FCL# (R119, R174, R608 to R611, R623, R661). HITM# sampled
overrides DEFER#, the line this processor holds is what it will supply, and the two signals together repeat the snoop
phase (R623, G8). The model's choices are (log 17): that a line handed over for write-back and not yet issued is still
snooped, as one held modified; that an unmodified line is dropped, and HIT# so not asserted, at a read and invalidate and a
snooped write; that a Cache Line Replacement is answered like a read, the line being kept. -/
def Obligations.SnoopResults : Prop :=
  ∀ (s : State) (x : Txn) (q : Pins) (held : Option CacheLine), snoopHead s.bus = some x →
    x.req.isOwn s.bus.arbId = false →
    (x.row = .memRead ∨ x.row = .memReadInvalidate ∨ x.row = .memReadCurrent ∨
      ((x.row = .memWrite ∨ x.row = .cacheLineReplacement) ∧ x.req1 = true)) →
    held = (match findLine s.core.cache (lineOf x.req.addr) with
      | some c => some c
      | none => (pendingWriteback s.bus.outQ (lineOf x.req.addr)).map fun d =>
          { line := lineOf x.req.addr, modified := true, data := d }) →
    (hitOut s = true ↔ (x.row = .memRead ∨ x.row = .memReadCurrent ∨ x.row = .cacheLineReplacement) ∧
      x.req.b.fcl = false ∧ ∃ c, held = some c ∧ c.modified = false) ∧
    (hitmOut s = true ↔ ∃ c, held = some c ∧ c.modified = true) ∧
    (q.snoopPhase = true → q.hit = true → q.hitm = true → snoopPhase q s = s) ∧
    (q.snoopPhase = true → ¬(q.hit = true ∧ q.hitm = true) →
      ∃ (pre post : List Txn) (z : Txn), s.bus.ioq = pre ++ x :: post ∧ (∀ y ∈ pre, y.snoop.isSome = true) ∧
        z = { x with supplies := hitmOut s,
                     wbuf := (match held with
                       | some c => if c.modified then c.data else x.wbuf
                       | none => x.wbuf),
                     snoop := some { hit := q.hit, hitm := q.hitm, defer := q.defer && !q.hitm, gseq := q.gseq } } ∧
        snoopPhase q s = { s with bus := { s.bus with ioq := pre ++ z :: post } })

/-- The identifier this processor drives with a deferrable request is its own, and its transaction ID is one that no
deferrable transaction of this agent holds that has not reported its snoop result or reported it with DEFER#, none whose
request phase is under way, and no deferred one (R51, R622, R623). -/
def Obligations.TransactionIdsAreUnique : Prop :=
  ∀ (s t : State) (q : Pins) (r : OutReq) (u : Request) (wb : ClockWord) (b : ClockB),
    s.bus.nextB = none → s.bus.outQ[q.pick]? = some r → r.instr.request = some u → u.b.den = true → t = issueStep q s →
    t.bus.nextB = some wb → b = clockB wb.pins →
    b.did.getLsbD 9 = false ∧ b.did.extractLsb' 5 4 = s.bus.arbId.zeroExtend 4 ∧
    (∀ x ∈ s.bus.ioq, x.src.isSome = true → x.req.b.den = true →
      (x.snoop = none ∨ ∃ y, x.snoop = some y ∧ y.defer = true) → x.req.tid ≠ b.did.extractLsb' 0 5) ∧
    (∀ x ∈ s.bus.issuing, x.den = true → x.tid ≠ b.did.extractLsb' 0 5) ∧
    (∀ p ∈ s.bus.deferred, p.2.src.isSome = true → p.1.extractLsb' 0 5 ≠ b.did.extractLsb' 0 5)

/-- When this processor issues a request of its own, and with what. Any of the requests handed over may be the next one, in
whatever order they were handed over: the environment says which (R114, D5). As the symmetric owner, with BPRI# and BNR#
sampled deasserted, the spacing of ADS# kept and the address pins free, clock a of the request handed over is driven, and
its clock b is the next to be driven. What is encoded onto them is that request, its row and every field of it, but for DSZ
= 01, DPS# asserted and the identifier, which is this agent's with a transaction ID, one not in use where DEN# is asserted
(R107, R168, R527, R622, R633); with BPRI# or BNR# sampled asserted, or not the owner, nothing is driven (R638, R639), nor
where no request is named. A barrier, as WBINVD's Sync is one, waits for the write-backs handed over before it and for those
on the bus, and for no other request (R669; that it waits also for another WBINVD's is the model's choice, log 22). In the
next clock clock b is driven without ADS# (R622). AP[1:0]# and RP# have the parity of both clocks (R172). The least ID not
in use, `freeTid`, is the model's choice (log 23). -/
def Obligations.OwnRequestsAreIssued : Prop :=
  (∀ (s : State) (q : Pins) (r : OutReq) (pre post before : List OutReq) (u : Request), s.bus.nextB = none →
    s.bus.outQ = pre ++ r :: post → q.pick = pre.length → r.instr.request = some u →
    before = pre ++ s.bus.issuing ++ s.bus.ioq.filterMap (·.src) ++ s.bus.deferred.filterMap (·.2.src) →
    ((r.barrier = true → ∀ w ∈ before, w.purpose ≠ .writeback) →
      s.bus.owner = some s.bus.arbId → s.bus.breqOut = true → q.bpri = false → q.bnr = false → q.ads = false →
      q.holdIssue = false → s.bus.configClocks = 0 → Config.adsMinSpacing ≤ s.bus.sinceAds →
      (u.b.den = true → freeTid s.bus ≠ none) →
      ∃ (t : State) (i : Instr) (tid : BitVec 5) (v : Request) (wa wb : ClockWord), issueStep q s = t ∧
        t = { s with bus := { s.bus with outQ := pre ++ post, issuing := s.bus.issuing ++ [{ r with instr := i }],
                                         nextB := some wb, sinceAds := 0, out := t.bus.out }, free := t.free } ∧
        i = mapRequest (ownFields (ownDid s.bus.arbId tid)) r.instr ∧ (u.b.den = true → freeTid s.bus = some tid) ∧
        i.request = some v ∧ v.dsz = 0b01 ∧ v.b.dps = true ∧ v.b.did.getLsbD 9 = false ∧
        v.b.did.extractLsb' 5 4 = s.bus.arbId.zeroExtend 4 ∧ v.b.did.extractLsb' 0 5 = tid ∧
        v = { u with dsz := v.dsz, b := { u.b with did := v.b.did, exf := v.b.exf } } ∧
        (∀ k : Nat, k ≠ 0 → v.b.exf.getLsbD k = u.b.exf.getLsbD k) ∧
        encode s.platform.cells i = .request wa wb ∧
        t.bus.out = { s.bus.out with ads := true, drivesReq := true, a := wa.pins, req := wa.req,
                                     ap := addressParity wa.pins, rp := requestParity true wa.req }) ∧
    (r.barrier = true → (∃ w ∈ before, w.purpose = .writeback) → issueStep q s = s) ∧
    ((q.bpri = true ∨ q.bnr = true ∨ s.bus.owner ≠ some s.bus.arbId) → issueStep q s = s)) ∧
  (∀ (s : State) (q : Pins), s.bus.nextB = none → s.bus.outQ.length ≤ q.pick → issueStep q s = s) ∧
  (∀ (s : State) (q : Pins) (wb : ClockWord), s.bus.nextB = some wb →
    ∃ t, issueStep q s = t ∧ t = { s with bus := { s.bus with nextB := none, out := t.bus.out } } ∧
      t.bus.out = { s.bus.out with ads := false, drivesReq := true, a := wb.pins, req := wb.req,
                                   ap := addressParity wb.pins, rp := requestParity false wb.req })

/-- A response is for the oldest transaction that has its snoop result and none (R600, R624). The data of an own write is
driven after TRDY# has been sampled and while no other agent holds the data or the strobe bus: first DBSY# and SBSY#, then
DRDY# with 32 bytes a clock, or 16 where there are no more (R519, R555, R625); read data is taken as DRDY# delivers it, in
one clock also for a partial transfer of no byte, as a Bus Invalidate Line is, or as the line that answers one (R106, R608,
R625). The head leaves the queue with its response: a normal one once all words have moved, a retry to be issued again, a
deferral into the table (R600, R624). A completed transaction of another agent takes its line out of the caches or leaves it
clean as its row says, an own cache cleanse does not invalidate the line, no other line is touched (R119, R515, R608 to
R611); an own read hands its data to the core. The line of an implicit writeback this processor supplies is driven in the
same way, from its copy, in four clocks; the line another agent supplies is taken as DRDY# delivers it (R119, R623, R625).
The model's choices are: the rising order of the words (log 16; N11 says to assume none), that HITM# and not the response
brings the line and that its words come first (log 16), that the response alone decides, also a deferral without DEFER# or
DEN# and a retry after GSEQ# (log 16), that an own transfer begins while no other agent holds the two busses, with DBSY# and
SBSY# together a clock before the first DRDY#, SBSY# released in the last (R519, R555; log 31), that a retried request is
listed before the others, of which the environment picks any (R624, log 31), that the deferrals of other agents enter the
table as well (log 30), what becomes of a line where the source leaves it open (log 17), and the inbox of the core (log 15). -/
def Obligations.ResponseDataAndRetirement : Prop :=
  (∀ (s : State) (q : Pins) (k : RespKind) (pre post : List Txn) (x : Txn), s.bus.ioq = pre ++ x :: post →
    (∀ y ∈ pre, y.snoop = none ∨ y.response.isSome = true) → x.snoop.isSome = true → x.response = none →
    responseKind q.rs = some k → q.trdy = false →
    ∃ z, responsePhase q s = { s with bus := { s.bus with ioq := pre ++ z :: post } } ∧
      z = { x with response := some k, bilLine := z.bilLine }) ∧
  (∀ (s : State) (q : Pins) (x : Txn) (w : OutReq) (n : Nat) (o : PinsOut),
    x.row = .memWrite ∨ x.row = .ioWrite → x.src = some w → x.hitm = false → x.response = some .normal →
    n = (if x.len.toNat ≤ 1 then 1 else 2 ^ (x.len.toNat - 1)) → x.got < n →
    (x.trdy = false → dataStep s q x o = (x, o)) ∧
    (x.trdy = true → x.lead = false → (q.dbsy = true ∨ q.sbsy = true) → dataStep s q x o = (x, o)) ∧
    (x.trdy = true → x.lead = false → q.dbsy = false → q.sbsy = false →
      dataStep s q x o = ({ x with lead := true }, { o with dbsy := true, sbsy := true })) ∧
    (x.trdy = true → x.lead = true → q.holdData = false →
      ∃ y p, dataStep s q x o = (y, p) ∧ y = { x with got := y.got } ∧ y.got = min n (x.got + 2) ∧
        p.dbsy = true ∧ p.drdy = true ∧ p.sbsy = decide (y.got < n) ∧ p.d0 = x.buf.extractLsb' (128 * x.got) 128 ∧
        (x.got + 2 ≤ n → p.d1 = x.buf.extractLsb' (128 * (x.got + 1)) 128))) ∧
  (∀ (s : State) (q : Pins) (x : Txn) (n : Nat) (o : PinsOut) (w0 w1 : DataWord), x.row.isRead = true →
    x.hitm = false → x.response = some .normal →
    n = (if x.bilLine then 8 else if x.len.toNat ≤ 1 then 1 else 2 ^ (x.len.toNat - 1)) → n ≤ 8 → x.got < n →
    q.drdy = true →
    q.d = some (w0, w1) →
    ∃ y p, dataStep s q x o = (y, p) ∧ y = { x with got := min n (x.got + 2), buf := y.buf } ∧
      y.buf.extractLsb' (128 * x.got) 128 = w0 ∧
      (x.got + 2 ≤ n → y.buf.extractLsb' (128 * (x.got + 1)) 128 = w1) ∧
      (∀ j < 8, j ≠ x.got → j ≠ x.got + 1 → y.buf.extractLsb' (128 * j) 128 = x.buf.extractLsb' (128 * j) 128)) ∧
  (∀ (s : State) (q : Pins) (x : Txn) (o : PinsOut), x.hitm = true →
    x.response = some .normal ∨ x.response = some .implicitWriteback → x.got + 2 ≤ 8 →
    (x.supplies = true →
      (x.trdy = false → dataStep s q x o = (x, o)) ∧
      (x.trdy = true → x.lead = false → (q.dbsy = true ∨ q.sbsy = true) → dataStep s q x o = (x, o)) ∧
      (x.trdy = true → x.lead = false → q.dbsy = false → q.sbsy = false →
        dataStep s q x o = ({ x with lead := true }, { o with dbsy := true, sbsy := true })) ∧
      (x.trdy = true → x.lead = true → q.holdData = false →
        ∃ p, dataStep s q x o = ({ x with got := x.got + 2 }, p) ∧ p.dbsy = true ∧ p.drdy = true ∧
          p.sbsy = decide (x.got + 2 < 8) ∧ p.d0 = x.wbuf.extractLsb' (128 * x.got) 128 ∧
          p.d1 = x.wbuf.extractLsb' (128 * (x.got + 1)) 128)) ∧
    (∀ w0 w1, x.supplies = false → q.drdy = true → q.d = some (w0, w1) →
      ∃ y p, dataStep s q x o = (y, p) ∧ y = { x with got := x.got + 2, wbuf := y.wbuf } ∧
        y.wbuf.extractLsb' (128 * x.got) 128 = w0 ∧ y.wbuf.extractLsb' (128 * (x.got + 1)) 128 = w1 ∧
        ∀ j < 8, j ≠ x.got → j ≠ x.got + 1 → y.wbuf.extractLsb' (128 * j) 128 = x.wbuf.extractLsb' (128 * j) 128)) ∧
  (∀ (s : State) (x : Txn) (rest : List Txn), s.bus.ioq = x :: rest →
    (x.response = none → retire s = s) ∧
    (x.response = some .normal → x.got < x.totalWords → retire s = s) ∧
    (x.response = some .normal → x.totalWords ≤ x.got → (retire s).bus.ioq = rest ∧
      (∀ l, l ≠ lineOf x.req.addr → findLine (retire s).core.cache l = findLine s.core.cache l) ∧
      (x.src = none → x.snooped = true → x.row = .memReadInvalidate ∨ x.row = .memWrite ∨ x.req.b.fcl = true →
        findLine (retire s).core.cache (lineOf x.req.addr) = none) ∧
      (x.src = none → x.row = .memRead → x.req.b.fcl = false → x.supplies = true →
        findLine (retire s).core.cache (lineOf x.req.addr) = none ∨
        findLine (retire s).core.cache (lineOf x.req.addr) =
          (findLine s.core.cache (lineOf x.req.addr)).map fun c => { c with modified := false }) ∧
      (x.src = none → x.snooped = false ∨ (x.req.b.fcl = false ∧ (x.row = .memReadCurrent ∨
          x.row = .cacheLineReplacement ∨ (x.row = .memRead ∧ x.supplies = false))) →
        (retire s).core = s.core) ∧
      (∀ w, x.src = some w → w.purpose ≠ .intAck → w.purpose ≠ .purge →
        (x.row = .memWrite → x.req.b.exf2 = true →
          findLine (retire s).core.cache (lineOf x.req.addr) =
            (findLine s.core.cache (lineOf x.req.addr)).map fun c => { c with modified := false }) ∧
        (x.row ≠ .memWrite ∨ x.req.b.exf2 = false → (retire s).core.cache = s.core.cache) ∧
        (x.row.isRead = false → (retire s).core.inbox = s.core.inbox) ∧
        (x.row.isRead = true → ∃ y, (retire s).core.inbox = s.core.inbox ++ [y] ∧ y.purpose = w.purpose ∧
          y.addr = x.req.addr ∧ y.len = x.len ∧ y.endian = w.endian ∧
          (x.hitm = false → x.len ≠ 0 → w.endian = .little → y.data = x.buf) ∧
          (x.hitm = false → x.isBil = true → x.bilLine = true → y.data = x.buf)) ∧
        (retire s).core = { s.core with cache := (retire s).core.cache, inbox := (retire s).core.inbox })) ∧
    (∀ w, x.src = some w → x.response = some .retry →
      retire s = { s with bus := { s.bus with ioq := rest, outQ := w :: s.bus.outQ } }) ∧
    (x.response = some .deferred →
      retire s = { s with bus := { s.bus with ioq := rest, deferred := s.bus.deferred ++ [(x.req.b.did, x)] } }))

/-- A Memory Write completed without an implicit writeback stores exactly its bytes: those of BE[7:0]# within the granule
when partial, in the half of the bus A[3]# selects, all of its length otherwise (R101, R105, R106, R611). The memory becomes
that when the transaction leaves the head of the queue with its data moved (R114, R600); a failed one changes none
(log 16). The line of an implicit writeback is stored first, in all its 128 bytes (R119); with OWN# the memory may ignore it
(R547), which a free bit decides (log 17). That all bytes are stored in one step (R109) and the line before a write's own
bytes is the model's choice (log 16). -/
def Obligations.MemoryWriteStores : Prop :=
  (∀ (s : State) (x : Txn) (rest : List Txn), s.bus.ioq = x :: rest →
    (x.response = some .normal ∨ x.response = some .implicitWriteback → x.totalWords ≤ x.got →
      ∃ ig, (retire s).mem = memoryAfter x ig s.mem) ∧
    ((x.response ≠ some .normal ∧ x.response ≠ some .implicitWriteback) ∨ x.got < x.totalWords →
      (retire s).mem = s.mem)) ∧
  (∀ (t : Txn) (m : Memory) (ig : Bool), t.hitm = true → m.wf = true →
    (t.row ≠ .memWrite → t.req.b.exf2 = true → ig = true → memoryAfter t ig m = m) ∧
    (t.row = .memWrite ∨ t.req.b.exf2 = false ∨ ig = false →
      ∃ n : Memory, n.wf = true ∧
        (∀ k < 128, n.read (128 * (lineOf t.req.addr).toNat + k) = t.wbuf.extractLsb' (8 * k) 8) ∧
        (∀ a, (∀ k < 128, a ≠ 128 * (lineOf t.req.addr).toNat + k) → n.read a = m.read a) ∧
        memoryAfter t ig m = memoryAfter { t with snoop := none } ig n ∧
        (t.row ≠ .memWrite → memoryAfter t ig m = n))) ∧
  ∀ (t : Txn) (m : Memory) (ig : Bool), t.row = .memWrite → t.hitm = false → m.wf = true → t.len.toNat ≤ 4 →
    (t.len = 0 →
      (∀ i < 8, t.req.b.be.getLsbD i = true →
        (memoryAfter t ig m).read (8 * t.req.addr.toNat + i) =
          t.buf.extractLsb' (8 * ((if t.req.addr.getLsbD 0 then 8 else 0) + i)) 8) ∧
      (∀ a, (∀ i < 8, t.req.b.be.getLsbD i = true → a ≠ 8 * t.req.addr.toNat + i) →
        (memoryAfter t ig m).read a = m.read a)) ∧
    (t.len ≠ 0 →
      (∀ k < 2 ^ (t.len.toNat + 3),
        (memoryAfter t ig m).read (8 * t.req.addr.toNat + k) = t.buf.extractLsb' (8 * k) 8) ∧
      (∀ a, (∀ k < 2 ^ (t.len.toNat + 3), a ≠ 8 * t.req.addr.toNat + k) →
        (memoryAfter t ig m).read a = m.read a)) ∧
    (memoryAfter t ig m).wf = true

/-! ### Thermal monitor and reset -/

/-- The thermal state machine at the die temperature of an interval, and in the moment the die temperature changes (R350,
R360 to R365): entry into the low power mode with a CMCI, the timer that counts toward exit, exit with another CMCI, a
trip from any state but Tripped; with ETM disabled only the trip. That a trip empties the queues is the model's choice
(log 18), and so are the restart of the timer at a warm interval, the evaluation once in an interval with the trip first,
and none while RESET# is asserted (log 25), and that a CMCI is seen on no pin of the bus (R708, log 25). -/
def Obligations.ThermalStates : Prop :=
  ∀ (s : State) (dieTemp : Int) (us : Nat) (rest : List Input),
    (s.Next (.thermal us) rest ∧ dieTemp = s.platform.dieTemp) ∨ (s.Next (.dieTemp dieTemp) rest ∧ us = 0) →
    s.powered = true → s.bus.inReset = false → s.thermal.mode ≠ .tripped →
    ∃ t, step s = .next t ∧
      (if Config.tTrip < dieTemp then
         t.thermal.mode = .tripped ∧ t.thermal.thrmtrip = true ∧ t.core.run = .stopped ∧ t.bus.ioq = [] ∧
           t.bus.outQ = [] ∧ t.bus.tlbPurging = [] ∧ SmbusSame s t
       else t = { s with core := t.core, thermal := t.thermal, inputs := rest,
                         platform := { s.platform with dieTemp } } ∧
         t.core = { s.core with pending := { s.core.pending with cmci := t.core.pending.cmci } } ∧
         (if s.thermal.etmEnabled = false then t.thermal = s.thermal ∧ t.core = s.core
          else match s.thermal.mode with
            | .normal =>
              if Config.tEtmEntry < dieTemp then
                t.thermal = { s.thermal with mode := .etmLowPower, belowTime := 0 } ∧
                  t.core.pending.cmci = s.core.pending.cmci + 1
              else t.thermal = s.thermal ∧ t.core = s.core
            | _ =>
              if dieTemp < Config.tEtmEntry ∧ Config.etmExitDelay ≤ s.thermal.belowTime + us then
                t.thermal = { s.thermal with mode := .normal, belowTime := 0 } ∧
                  t.core.pending.cmci = s.core.pending.cmci + 1
              else if dieTemp < Config.tEtmEntry then
                t.thermal = { s.thermal with belowTime := s.thermal.belowTime + us } ∧ t.core = s.core
              else t.thermal = { s.thermal with belowTime := 0 } ∧ t.core = s.core))

/-- RESET# sampled asserted: the items of R779 at their values, the request phase, the transactions and the deferred phase
under way gone with the bus state machines (R50), every output deasserted, no modified line written back (R770, R774), the
SMBus devices and memory untouched (R782), the platform but for whether the reset is a cold one (R771, R772); the power-on
configuration and the identity stand until they are sampled at the release (R775, R777). That the requests handed over are
dropped and that the count of clocks since the last ADS# starts again at 0 is the model's choice (log 18). -/
def Obligations.ResetAsserted : Prop :=
  ∀ (s : State) (rest : List Input), s.Next .resetAssert rest →
    ∃ t, step s = .next t ∧ t.bus.inReset = true ∧ t.core.cache = [] ∧ t.core.lint0 = .disabled ∧
      t.core.lint1 = .disabled ∧ t.core.nmiInService = false ∧ t.core.nmiPending = false ∧ t.core.run = .stopped ∧
      t.bus.rotatingId = 3 ∧ t.bus.owner = none ∧ t.bus.breqOut = false ∧ t.bus.breqLow = 1 ∧ t.bus.latchA = none ∧
      t.bus.issuing = [] ∧ t.bus.nextB = none ∧ t.bus.idLatch = none ∧ t.bus.ioq = [] ∧ t.bus.deferred = [] ∧
      t.bus.tlbPurging = [] ∧ t.bus.outQ = [] ∧ t.bus.sinceAds = 0 ∧ t.special = none ∧ t.bus.poc = s.bus.poc ∧
      t.bus.arbId = s.bus.arbId ∧ t.bus.out = PinsOut.idle ∧ t.thermal.mode = .normal ∧ t.thermal.thrmtrip = false ∧ t.mem = s.mem ∧
      t.platform =
        { s.platform with pwrgoodLow := (s.bus.inReset && s.platform.pwrgoodLow) || !s.platform.pwrgood } ∧
      SmbusSame s t ∧ t.coreReady = false ∧ t.onBus = false

/-- RESET# released in order, after a thermal trip with the case below its maximum (R366, R803), with PAL code in memory at
the reset vector: the one BR pin sampled asserted gives the arbitration ID and twice it the agent ID, the bus ratio is the
part's (R776), and the core begins at the reset vector unless the outputs are tristated; none or several are refused (R177,
R631, R780, R781), and so is a release without PAL code (R111; which bytes are PAL code the environment says, log 38), or with
a ratio code that is not the one of a part that reads the pins (R776); the other parts ignore them (D28). A die that is above
the trip point then trips at once (R360, R365); at any other die temperature the items of R779 have the values RESET# has held
them at, and the thermal state is Normal, unless the monitor enters ETM at once (R361). -/
def Obligations.ResetReleased : Prop :=
  ∀ (s : State) (r : ResetRelease) (rest : List Input) (reads : Option (BitVec 5)), s.Next (.resetRelease r) rest →
    s.bus.inReset = true → resetTimingOk s r = true →
    reads = (match s.platform.sku with
      | .f900c1p5 => some (0b10110 : BitVec 5)
      | .f1000c3 => some 0b10101
      | .f1300c3 => some 0b10010
      | .f1400c4 => some 0b10001
      | .f1500c6 => some 0b10000
      | _ => none) →
    (∀ c, reads = some c → r.ratioPins ≠ c → step s = .refused .busRatio) ∧
    ((∀ c, reads = some c → r.ratioPins = c) →
    (s.thermal.afterTrip = true → r.tcase < tcaseMax s.platform.sku) →
    ((r.pal = [] ∨ ∃ k < r.pal.length, s.mem.read (Config.resetVector.toNat + k) ≠ r.pal.getD k 0) →
      step s = .refused .noPalCode) ∧
    (r.pal ≠ [] → (∀ k < r.pal.length, s.mem.read (Config.resetVector.toNat + k) = r.pal.getD k 0) →
    (∀ x ∈ [((0b0001 : BitVec 4), (0 : BitVec 2), 0), (0b1000, 1, 2), (0b0100, 2, 4), (0b0010, 3, 6)], r.br = x.1 →
      ∃ t, step s = .next t ∧ t.bus.arbId = x.2.1 ∧ agentIdOf t.bus.arbId = x.2.2 ∧ t.bus.inReset = false ∧
        t.bus.poc.opts = r.opts ∧ t.mem = s.mem ∧ SmbusSame s t ∧ t.thermal.afterTrip = false ∧
        t.bus.poc.ratio = (match s.platform.sku with
          | .f900c1p5 => 9
          | .f1000c3 => 10
          | .f1300c3 => 13
          | .f1400c4 => 14
          | .f1500c6 => 15
          | .f1500c4 => 15
          | .f1600c6 => 16
          | .f1600c9 => if Config.bus266For1600x9 then 12 else 16
          | .f1660c6 => 10
          | .f1660c9 => 10) ∧
        (s.HeldInReset → s.platform.dieTemp ≤ Config.tTrip → t.ResetValues ∧ t.thermal.thrmtrip = false ∧
          t.thermal.mode = (if s.thermal.etmEnabled = true ∧ Config.tEtmEntry < s.platform.dieTemp
            then .etmLowPower else .normal)) ∧
        (s.thermal.mode = .tripped ∨ s.platform.dieTemp ≤ Config.tTrip →
          t.core.pc.toNat = Config.resetVector.toNat ∧
          t.core.run = (if r.opts.outputTristate then .stopped else .running)) ∧
        (s.thermal.mode ≠ .tripped → Config.tTrip < s.platform.dieTemp →
          t.thermal.mode = .tripped ∧ t.core.run = .stopped)) ∧
    (r.br ∉ [(0b0001 : BitVec 4), 0b1000, 0b0100, 0b0010] → step s = .refused .identity)))

/-- What the platform must keep: a reset that breaks a timing requirement is refused (R771 to R773), a cold one taken for a
warm one or the reverse and one without power among them, and PWRGOOD raised outside RESET# or without power (R549, R771),
and one after a thermal trip with the case too hot (R803); while PWRGOOD is low the processor is held off: no clock, no step
of its core, no event and no purge changes anything (R771; that its state is kept is the model's choice, log 18); four measured quantities change nothing within their limits and
have no behaviour outside them (R219): the core voltage within 1.5 % of the VID's (R212), the dissipation within the thermal
design power of the part (R211), the case within Table 5-1 (R368), the termination resistance within 15 % of 45 ohm on the die and 1 % off it (R206, R210). -/
def Obligations.PlatformRequirements : Prop :=
  (∀ (s : State) (r : ResetRelease) (rest : List Input), s.Next (.resetRelease r) rest → s.bus.inReset = true →
    ((r.heldNs < 1000000 ∨ r.ratioHeld = false ∨ r.setupClocks < 4 ∨ r.holdClocks < 2 ∨ 3 < r.holdClocks ∨
        r.ratioHoldClocks < 2 ∨ 3 < r.ratioHoldClocks ∨ r.taCentiNs < 115 ∨ s.powered = false ∨
        s.platform.pwrgood = false ∨ r.cold ≠ s.platform.pwrgoodLow) → step s = .refused .resetTiming) ∧
    (resetTimingOk s r = true → ratioOk s.platform.sku r.ratioPins = true → s.thermal.afterTrip = true →
      tcaseMax s.platform.sku ≤ r.tcase → step s = .refused .hotReset)) ∧
  (∀ (s : State) (rest : List Input), s.Next (.pwrgood true) rest → s.platform.pwrgood = false →
    step s = if s.bus.inReset = true ∧ s.powered = true
      then .next { s with inputs := rest, platform := { s.platform with pwrgood := true } }
      else .refused .resetTiming) ∧
  (∀ (s : State) (x : Input) (rest : List Input), s.Next x rest → s.platform.pwrgood = false → x.isProcessor = true →
    step s = .next { s with inputs := rest }) ∧
  (∀ (s : State) (rest : List Input) (v : Int), s.platform.terma = s.platform.termb →
    (s.Next (.measure .rtermMilliohm v) rest →
      step s = if (if s.platform.terma then 38250 ≤ v ∧ v ≤ 51750 else 44550 ≤ v ∧ v ≤ 45450)
        then .next { s with inputs := rest } else .refused .outOfSpec) ∧
    (s.Next (.measure .vccDeviationPpm v) rest →
      step s = if -15000 ≤ v ∧ v ≤ 15000 then .next { s with inputs := rest } else .refused .outOfSpec) ∧
    (s.Next (.measure .pwrTdpMw v) rest →
      step s = if v ≤ (match s.platform.sku with
          | .f900c1p5 => (90000 : Int)
          | .f1000c3 => 100000
          | .f1300c3 => 97000
          | .f1400c4 => 91000
          | .f1500c6 => 107000
          | .f1500c4 => 107000
          | _ => 122000) then .next { s with inputs := rest } else .refused .outOfSpec) ∧
    (s.Next (.measure .tcaseC v) rest →
      step s = if 5 ≤ v ∧ v ≤ (match s.platform.sku with
          | .f900c1p5 => (85 : Int)
          | .f1000c3 => 85
          | _ => 83) then .next { s with inputs := rest } else .refused .outOfSpec))

end
end

