-- ==== Sys2Proof/Laws/State.lean ====
section
/-! SUPPORT. One lemma for each field and each update of the state: later proofs never unfold a record update. -/

namespace Sys2Proof.Machine

/-! ### State.drew -/

@[simp] theorem State.drew_core (s : State) (n : Nat) : (s.drew n).core = s.core := rfl
@[simp] theorem State.drew_bus (s : State) (n : Nat) : (s.drew n).bus = s.bus := rfl
@[simp] theorem State.drew_pirom (s : State) (n : Nat) : (s.drew n).pirom = s.pirom := rfl
@[simp] theorem State.drew_scratch (s : State) (n : Nat) : (s.drew n).scratch = s.scratch := rfl
@[simp] theorem State.drew_sensor (s : State) (n : Nat) : (s.drew n).sensor = s.sensor := rfl
@[simp] theorem State.drew_thermal (s : State) (n : Nat) : (s.drew n).thermal = s.thermal := rfl
@[simp] theorem State.drew_platform (s : State) (n : Nat) : (s.drew n).platform = s.platform := rfl
@[simp] theorem State.drew_answer (s : State) (n : Nat) : (s.drew n).answer = s.answer := rfl
@[simp] theorem State.drew_mem (s : State) (n : Nat) : (s.drew n).mem = s.mem := rfl
@[simp] theorem State.drew_special (s : State) (n : Nat) : (s.drew n).special = s.special := rfl
@[simp] theorem State.drew_inputs (s : State) (n : Nat) : (s.drew n).inputs = s.inputs := rfl
@[simp] theorem State.drew_free (s : State) (n : Nat) : (s.drew n).free = s.free + n := rfl

/-! ### State.answered -/

@[simp] theorem State.answered_core (s : State) (l : List DevItem) : (s.answered l).core = s.core := rfl
@[simp] theorem State.answered_bus (s : State) (l : List DevItem) : (s.answered l).bus = s.bus := rfl
@[simp] theorem State.answered_pirom (s : State) (l : List DevItem) : (s.answered l).pirom = s.pirom := rfl
@[simp] theorem State.answered_scratch (s : State) (l : List DevItem) : (s.answered l).scratch = s.scratch := rfl
@[simp] theorem State.answered_sensor (s : State) (l : List DevItem) : (s.answered l).sensor = s.sensor := rfl
@[simp] theorem State.answered_thermal (s : State) (l : List DevItem) : (s.answered l).thermal = s.thermal := rfl
@[simp] theorem State.answered_platform (s : State) (l : List DevItem) : (s.answered l).platform = s.platform := rfl
@[simp] theorem State.answered_answer (s : State) (l : List DevItem) : (s.answered l).answer = l := rfl
@[simp] theorem State.answered_mem (s : State) (l : List DevItem) : (s.answered l).mem = s.mem := rfl
@[simp] theorem State.answered_special (s : State) (l : List DevItem) : (s.answered l).special = s.special := rfl
@[simp] theorem State.answered_inputs (s : State) (l : List DevItem) : (s.answered l).inputs = s.inputs := rfl
@[simp] theorem State.answered_free (s : State) (l : List DevItem) : (s.answered l).free = s.free := rfl

/-! ### State.unanswered -/

@[simp] theorem State.unanswered_core (s : State) : (s.unanswered).core = s.core := rfl
@[simp] theorem State.unanswered_bus (s : State) : (s.unanswered).bus = s.bus := rfl
@[simp] theorem State.unanswered_pirom (s : State) : (s.unanswered).pirom = s.pirom := rfl
@[simp] theorem State.unanswered_scratch (s : State) : (s.unanswered).scratch = s.scratch := rfl
@[simp] theorem State.unanswered_sensor (s : State) : (s.unanswered).sensor = s.sensor := rfl
@[simp] theorem State.unanswered_thermal (s : State) : (s.unanswered).thermal = s.thermal := rfl
@[simp] theorem State.unanswered_platform (s : State) : (s.unanswered).platform = s.platform := rfl
@[simp] theorem State.unanswered_answer (s : State) : (s.unanswered).answer = [.nack] := rfl
@[simp] theorem State.unanswered_mem (s : State) : (s.unanswered).mem = s.mem := rfl
@[simp] theorem State.unanswered_special (s : State) : (s.unanswered).special = s.special := rfl
@[simp] theorem State.unanswered_inputs (s : State) : (s.unanswered).inputs = s.inputs := rfl
@[simp] theorem State.unanswered_free (s : State) : (s.unanswered).free = s.free := rfl

/-! ### State.setSensor -/

@[simp] theorem State.setSensor_core (s : State) (x : Sensor) : (s.setSensor x).core = s.core := rfl
@[simp] theorem State.setSensor_bus (s : State) (x : Sensor) : (s.setSensor x).bus = s.bus := rfl
@[simp] theorem State.setSensor_pirom (s : State) (x : Sensor) : (s.setSensor x).pirom = s.pirom := rfl
@[simp] theorem State.setSensor_scratch (s : State) (x : Sensor) : (s.setSensor x).scratch = s.scratch := rfl
@[simp] theorem State.setSensor_sensor (s : State) (x : Sensor) : (s.setSensor x).sensor = x := rfl
@[simp] theorem State.setSensor_thermal (s : State) (x : Sensor) : (s.setSensor x).thermal = s.thermal := rfl
@[simp] theorem State.setSensor_platform (s : State) (x : Sensor) : (s.setSensor x).platform = s.platform := rfl
@[simp] theorem State.setSensor_answer (s : State) (x : Sensor) : (s.setSensor x).answer = s.answer := rfl
@[simp] theorem State.setSensor_mem (s : State) (x : Sensor) : (s.setSensor x).mem = s.mem := rfl
@[simp] theorem State.setSensor_special (s : State) (x : Sensor) : (s.setSensor x).special = s.special := rfl
@[simp] theorem State.setSensor_inputs (s : State) (x : Sensor) : (s.setSensor x).inputs = s.inputs := rfl
@[simp] theorem State.setSensor_free (s : State) (x : Sensor) : (s.setSensor x).free = s.free := rfl

/-! ### State.setCore -/

@[simp] theorem State.setCore_core (s : State) (c : Core) : (s.setCore c).core = c := rfl
@[simp] theorem State.setCore_bus (s : State) (c : Core) : (s.setCore c).bus = s.bus := rfl
@[simp] theorem State.setCore_pirom (s : State) (c : Core) : (s.setCore c).pirom = s.pirom := rfl
@[simp] theorem State.setCore_scratch (s : State) (c : Core) : (s.setCore c).scratch = s.scratch := rfl
@[simp] theorem State.setCore_sensor (s : State) (c : Core) : (s.setCore c).sensor = s.sensor := rfl
@[simp] theorem State.setCore_thermal (s : State) (c : Core) : (s.setCore c).thermal = s.thermal := rfl
@[simp] theorem State.setCore_platform (s : State) (c : Core) : (s.setCore c).platform = s.platform := rfl
@[simp] theorem State.setCore_answer (s : State) (c : Core) : (s.setCore c).answer = s.answer := rfl
@[simp] theorem State.setCore_mem (s : State) (c : Core) : (s.setCore c).mem = s.mem := rfl
@[simp] theorem State.setCore_special (s : State) (c : Core) : (s.setCore c).special = s.special := rfl
@[simp] theorem State.setCore_inputs (s : State) (c : Core) : (s.setCore c).inputs = s.inputs := rfl
@[simp] theorem State.setCore_free (s : State) (c : Core) : (s.setCore c).free = s.free := rfl

/-! ### State.stepped -/

@[simp] theorem State.stepped_core (s : State) : (s.stepped).core = s.core.advance s.free := rfl
@[simp] theorem State.stepped_bus (s : State) : (s.stepped).bus = s.bus := rfl
@[simp] theorem State.stepped_pirom (s : State) : (s.stepped).pirom = s.pirom := rfl
@[simp] theorem State.stepped_scratch (s : State) : (s.stepped).scratch = s.scratch := rfl
@[simp] theorem State.stepped_sensor (s : State) : (s.stepped).sensor = s.sensor := rfl
@[simp] theorem State.stepped_thermal (s : State) : (s.stepped).thermal = s.thermal := rfl
@[simp] theorem State.stepped_platform (s : State) : (s.stepped).platform = s.platform := rfl
@[simp] theorem State.stepped_answer (s : State) : (s.stepped).answer = s.answer := rfl
@[simp] theorem State.stepped_mem (s : State) : (s.stepped).mem = s.mem := rfl
@[simp] theorem State.stepped_special (s : State) : (s.stepped).special = s.special := rfl
@[simp] theorem State.stepped_inputs (s : State) : (s.stepped).inputs = s.inputs := rfl
@[simp] theorem State.stepped_free (s : State) : (s.stepped).free = s.free + 1 := rfl

/-! ### State.enqueue -/

@[simp] theorem State.enqueue_core (s : State) (qs : List OutReq) : (s.enqueue qs).core = s.core := rfl
@[simp] theorem State.enqueue_bus (s : State) (qs : List OutReq) : (s.enqueue qs).bus = s.bus.enqueue qs := rfl
@[simp] theorem State.enqueue_pirom (s : State) (qs : List OutReq) : (s.enqueue qs).pirom = s.pirom := rfl
@[simp] theorem State.enqueue_scratch (s : State) (qs : List OutReq) : (s.enqueue qs).scratch = s.scratch := rfl
@[simp] theorem State.enqueue_sensor (s : State) (qs : List OutReq) : (s.enqueue qs).sensor = s.sensor := rfl
@[simp] theorem State.enqueue_thermal (s : State) (qs : List OutReq) : (s.enqueue qs).thermal = s.thermal := rfl
@[simp] theorem State.enqueue_platform (s : State) (qs : List OutReq) : (s.enqueue qs).platform = s.platform := rfl
@[simp] theorem State.enqueue_answer (s : State) (qs : List OutReq) : (s.enqueue qs).answer = s.answer := rfl
@[simp] theorem State.enqueue_mem (s : State) (qs : List OutReq) : (s.enqueue qs).mem = s.mem := rfl
@[simp] theorem State.enqueue_special (s : State) (qs : List OutReq) : (s.enqueue qs).special = s.special := rfl
@[simp] theorem State.enqueue_inputs (s : State) (qs : List OutReq) : (s.enqueue qs).inputs = s.inputs := rfl
@[simp] theorem State.enqueue_free (s : State) (qs : List OutReq) : (s.enqueue qs).free = s.free := rfl

/-! ### State.append -/

@[simp] theorem State.append_core (s : State) (row : BusRow) (r : Request) (q : Bool) (len : BitVec 3) :
    (s.append row r q len).core = s.core := rfl
@[simp] theorem State.append_bus (s : State) (row : BusRow) (r : Request) (q : Bool) (len : BitVec 3) :
    (s.append row r q len).bus = s.bus.append row r q len := rfl
@[simp] theorem State.append_pirom (s : State) (row : BusRow) (r : Request) (q : Bool) (len : BitVec 3) :
    (s.append row r q len).pirom = s.pirom := rfl
@[simp] theorem State.append_scratch (s : State) (row : BusRow) (r : Request) (q : Bool) (len : BitVec 3) :
    (s.append row r q len).scratch = s.scratch := rfl
@[simp] theorem State.append_sensor (s : State) (row : BusRow) (r : Request) (q : Bool) (len : BitVec 3) :
    (s.append row r q len).sensor = s.sensor := rfl
@[simp] theorem State.append_thermal (s : State) (row : BusRow) (r : Request) (q : Bool) (len : BitVec 3) :
    (s.append row r q len).thermal = s.thermal := rfl
@[simp] theorem State.append_platform (s : State) (row : BusRow) (r : Request) (q : Bool) (len : BitVec 3) :
    (s.append row r q len).platform = s.platform := rfl
@[simp] theorem State.append_answer (s : State) (row : BusRow) (r : Request) (q : Bool) (len : BitVec 3) :
    (s.append row r q len).answer = s.answer := rfl
@[simp] theorem State.append_mem (s : State) (row : BusRow) (r : Request) (q : Bool) (len : BitVec 3) :
    (s.append row r q len).mem = s.mem := rfl
@[simp] theorem State.append_special (s : State) (row : BusRow) (r : Request) (q : Bool) (len : BitVec 3) :
    (s.append row r q len).special = s.special := rfl
@[simp] theorem State.append_inputs (s : State) (row : BusRow) (r : Request) (q : Bool) (len : BitVec 3) :
    (s.append row r q len).inputs = s.inputs := rfl
@[simp] theorem State.append_free (s : State) (row : BusRow) (r : Request) (q : Bool) (len : BitVec 3) :
    (s.append row r q len).free = s.free := rfl

/-! ### State.markSpecial -/

@[simp] theorem State.markSpecial_core (s : State) (k : SpecialKind) : (s.markSpecial k).core = s.core := rfl
@[simp] theorem State.markSpecial_bus (s : State) (k : SpecialKind) :
    (s.markSpecial k).bus = { s.bus with ioq := markNewest s.bus.ioq k } := rfl
@[simp] theorem State.markSpecial_pirom (s : State) (k : SpecialKind) : (s.markSpecial k).pirom = s.pirom := rfl
@[simp] theorem State.markSpecial_scratch (s : State) (k : SpecialKind) : (s.markSpecial k).scratch = s.scratch := rfl
@[simp] theorem State.markSpecial_sensor (s : State) (k : SpecialKind) : (s.markSpecial k).sensor = s.sensor := rfl
@[simp] theorem State.markSpecial_thermal (s : State) (k : SpecialKind) : (s.markSpecial k).thermal = s.thermal := rfl
@[simp] theorem State.markSpecial_platform (s : State) (k : SpecialKind) :
    (s.markSpecial k).platform = s.platform := rfl
@[simp] theorem State.markSpecial_answer (s : State) (k : SpecialKind) : (s.markSpecial k).answer = s.answer := rfl
@[simp] theorem State.markSpecial_mem (s : State) (k : SpecialKind) : (s.markSpecial k).mem = s.mem := rfl
@[simp] theorem State.markSpecial_special (s : State) (k : SpecialKind) : (s.markSpecial k).special = s.special := rfl
@[simp] theorem State.markSpecial_inputs (s : State) (k : SpecialKind) : (s.markSpecial k).inputs = s.inputs := rfl
@[simp] theorem State.markSpecial_free (s : State) (k : SpecialKind) : (s.markSpecial k).free = s.free := rfl

/-! ### sensorDiode -/

@[simp] theorem sensorDiode_core (s : State) (o : Bool) : (sensorDiode o s).core = s.core := rfl
@[simp] theorem sensorDiode_bus (s : State) (o : Bool) : (sensorDiode o s).bus = s.bus := rfl
@[simp] theorem sensorDiode_pirom (s : State) (o : Bool) : (sensorDiode o s).pirom = s.pirom := rfl
@[simp] theorem sensorDiode_scratch (s : State) (o : Bool) : (sensorDiode o s).scratch = s.scratch := rfl
@[simp] theorem sensorDiode_sensor (s : State) (o : Bool) :
    (sensorDiode o s).sensor = { s.sensor with openCond := o } := rfl
@[simp] theorem sensorDiode_thermal (s : State) (o : Bool) : (sensorDiode o s).thermal = s.thermal := rfl
@[simp] theorem sensorDiode_platform (s : State) (o : Bool) : (sensorDiode o s).platform = s.platform := rfl
@[simp] theorem sensorDiode_answer (s : State) (o : Bool) : (sensorDiode o s).answer = s.answer := rfl
@[simp] theorem sensorDiode_mem (s : State) (o : Bool) : (sensorDiode o s).mem = s.mem := rfl
@[simp] theorem sensorDiode_special (s : State) (o : Bool) : (sensorDiode o s).special = s.special := rfl
@[simp] theorem sensorDiode_inputs (s : State) (o : Bool) : (sensorDiode o s).inputs = s.inputs := rfl
@[simp] theorem sensorDiode_free (s : State) (o : Bool) : (sensorDiode o s).free = s.free := rfl

/-! ### setSmwp -/

@[simp] theorem setSmwp_core (s : State) (l : Bool) : (setSmwp l s).core = s.core := rfl
@[simp] theorem setSmwp_bus (s : State) (l : Bool) : (setSmwp l s).bus = s.bus := rfl
@[simp] theorem setSmwp_pirom (s : State) (l : Bool) : (setSmwp l s).pirom = s.pirom := rfl
@[simp] theorem setSmwp_scratch (s : State) (l : Bool) : (setSmwp l s).scratch = s.scratch := rfl
@[simp] theorem setSmwp_sensor (s : State) (l : Bool) : (setSmwp l s).sensor = s.sensor := rfl
@[simp] theorem setSmwp_thermal (s : State) (l : Bool) : (setSmwp l s).thermal = s.thermal := rfl
@[simp] theorem setSmwp_platform (s : State) (l : Bool) :
    (setSmwp l s).platform = { s.platform with smwp := l } := rfl
@[simp] theorem setSmwp_answer (s : State) (l : Bool) : (setSmwp l s).answer = s.answer := rfl
@[simp] theorem setSmwp_mem (s : State) (l : Bool) : (setSmwp l s).mem = s.mem := rfl
@[simp] theorem setSmwp_special (s : State) (l : Bool) : (setSmwp l s).special = s.special := rfl
@[simp] theorem setSmwp_inputs (s : State) (l : Bool) : (setSmwp l s).inputs = s.inputs := rfl
@[simp] theorem setSmwp_free (s : State) (l : Bool) : (setSmwp l s).free = s.free := rfl

/-! ### setAraRival -/

@[simp] theorem setAraRival_core (s : State) (t : Option SmbAddr) : (setAraRival t s).core = s.core := rfl
@[simp] theorem setAraRival_bus (s : State) (t : Option SmbAddr) : (setAraRival t s).bus = s.bus := rfl
@[simp] theorem setAraRival_pirom (s : State) (t : Option SmbAddr) : (setAraRival t s).pirom = s.pirom := rfl
@[simp] theorem setAraRival_scratch (s : State) (t : Option SmbAddr) : (setAraRival t s).scratch = s.scratch := rfl
@[simp] theorem setAraRival_sensor (s : State) (t : Option SmbAddr) : (setAraRival t s).sensor = s.sensor := rfl
@[simp] theorem setAraRival_thermal (s : State) (t : Option SmbAddr) : (setAraRival t s).thermal = s.thermal := rfl
@[simp] theorem setAraRival_platform (s : State) (t : Option SmbAddr) :
    (setAraRival t s).platform = { s.platform with araRival := t } := rfl
@[simp] theorem setAraRival_answer (s : State) (t : Option SmbAddr) : (setAraRival t s).answer = s.answer := rfl
@[simp] theorem setAraRival_mem (s : State) (t : Option SmbAddr) : (setAraRival t s).mem = s.mem := rfl
@[simp] theorem setAraRival_special (s : State) (t : Option SmbAddr) : (setAraRival t s).special = s.special := rfl
@[simp] theorem setAraRival_inputs (s : State) (t : Option SmbAddr) : (setAraRival t s).inputs = s.inputs := rfl
@[simp] theorem setAraRival_free (s : State) (t : Option SmbAddr) : (setAraRival t s).free = s.free := rfl

/-! ### thermalTrip -/

@[simp] theorem thermalTrip_core (s : State) : (thermalTrip s).core = Core.lost s.free := rfl
@[simp] theorem thermalTrip_bus (s : State) :
    (thermalTrip s).bus = { s.bus.resetFsm with outQ := [], tlbPurging := [] } := rfl
@[simp] theorem thermalTrip_pirom (s : State) : (thermalTrip s).pirom = s.pirom := rfl
@[simp] theorem thermalTrip_scratch (s : State) : (thermalTrip s).scratch = s.scratch := rfl
@[simp] theorem thermalTrip_sensor (s : State) : (thermalTrip s).sensor = s.sensor := rfl
@[simp] theorem thermalTrip_thermal (s : State) :
    (thermalTrip s).thermal = { s.thermal with mode := .tripped, belowTime := 0, thrmtrip := true } := rfl
@[simp] theorem thermalTrip_platform (s : State) :
    (thermalTrip s).platform = { s.platform with powerState := .thermalTripShutdown } := rfl
@[simp] theorem thermalTrip_answer (s : State) : (thermalTrip s).answer = s.answer := rfl
@[simp] theorem thermalTrip_mem (s : State) : (thermalTrip s).mem = s.mem := rfl
@[simp] theorem thermalTrip_special (s : State) : (thermalTrip s).special = none := rfl
@[simp] theorem thermalTrip_inputs (s : State) : (thermalTrip s).inputs = s.inputs := rfl
@[simp] theorem thermalTrip_free (s : State) : (thermalTrip s).free = s.free + 23 := rfl

/-! ### dataLost -/

@[simp] theorem dataLost_core (s : State) : (dataLost s).core = Core.lost s.free := rfl
@[simp] theorem dataLost_bus (s : State) :
    (dataLost s).bus = { s.bus.resetFsm with outQ := [], tlbPurging := [] } := rfl
@[simp] theorem dataLost_pirom (s : State) : (dataLost s).pirom = s.pirom := rfl
@[simp] theorem dataLost_scratch (s : State) : (dataLost s).scratch = s.scratch := rfl
@[simp] theorem dataLost_sensor (s : State) : (dataLost s).sensor = s.sensor := rfl
@[simp] theorem dataLost_thermal (s : State) : (dataLost s).thermal = s.thermal := rfl
@[simp] theorem dataLost_platform (s : State) : (dataLost s).platform = s.platform := rfl
@[simp] theorem dataLost_answer (s : State) : (dataLost s).answer = s.answer := rfl
@[simp] theorem dataLost_mem (s : State) : (dataLost s).mem = s.mem := rfl
@[simp] theorem dataLost_special (s : State) : (dataLost s).special = none := rfl
@[simp] theorem dataLost_inputs (s : State) : (dataLost s).inputs = s.inputs := rfl
@[simp] theorem dataLost_free (s : State) : (dataLost s).free = s.free + 23 := rfl

/-! ### heldInReset -/

@[simp] theorem heldInReset_core (s : State) : (heldInReset s).core = Core.inReset s.free := rfl
@[simp] theorem heldInReset_bus (s : State) :
    (heldInReset s).bus = { Bus.reset with poc := s.bus.poc, arbId := s.bus.arbId, inReset := true } := rfl
@[simp] theorem heldInReset_pirom (s : State) : (heldInReset s).pirom = s.pirom := rfl
@[simp] theorem heldInReset_scratch (s : State) : (heldInReset s).scratch = s.scratch := rfl
@[simp] theorem heldInReset_sensor (s : State) : (heldInReset s).sensor = s.sensor := rfl
@[simp] theorem heldInReset_thermal (s : State) : (heldInReset s).thermal = s.thermal := rfl
@[simp] theorem heldInReset_platform (s : State) : (heldInReset s).platform = s.platform := rfl
@[simp] theorem heldInReset_answer (s : State) : (heldInReset s).answer = s.answer := rfl
@[simp] theorem heldInReset_mem (s : State) : (heldInReset s).mem = s.mem := rfl
@[simp] theorem heldInReset_special (s : State) : (heldInReset s).special = none := rfl
@[simp] theorem heldInReset_inputs (s : State) : (heldInReset s).inputs = s.inputs := rfl
@[simp] theorem heldInReset_free (s : State) : (heldInReset s).free = s.free + 9 := rfl

/-! ### thermalStep -/

/-- What the thermal monitor can do in an interval: nothing, a trip, or a step of ETM with a CMCI or without. -/
theorem thermalStep_cases (us : Nat) (s : State) :
    thermalStep us s = s ∨ thermalStep us s = thermalTrip s ∨
      thermalStep us s = { s with thermal := (s.thermal.etm s.platform.dieTemp us).1, core := raiseCmci s.core } ∨
      thermalStep us s = { s with thermal := (s.thermal.etm s.platform.dieTemp us).1 } := by
  unfold thermalStep
  split
  · exact .inl rfl
  · split
    · exact .inl rfl
    · split
      · exact .inr (.inl rfl)
      · cases h : (s.thermal.etm s.platform.dieTemp us).2
        · exact .inr (.inr (.inr (by simp [h])))
        · exact .inr (.inr (.inl (by simp [h])))

@[simp] theorem thermalStep_pirom (us : Nat) (s : State) : (thermalStep us s).pirom = s.pirom := by
  rcases thermalStep_cases us s with h | h | h | h <;> (rw [h]; try rfl)
@[simp] theorem thermalStep_scratch (us : Nat) (s : State) : (thermalStep us s).scratch = s.scratch := by
  rcases thermalStep_cases us s with h | h | h | h <;> (rw [h]; try rfl)
@[simp] theorem thermalStep_sensor (us : Nat) (s : State) : (thermalStep us s).sensor = s.sensor := by
  rcases thermalStep_cases us s with h | h | h | h <;> (rw [h]; try rfl)
@[simp] theorem thermalStep_answer (us : Nat) (s : State) : (thermalStep us s).answer = s.answer := by
  rcases thermalStep_cases us s with h | h | h | h <;> (rw [h]; try rfl)
@[simp] theorem thermalStep_mem (us : Nat) (s : State) : (thermalStep us s).mem = s.mem := by
  rcases thermalStep_cases us s with h | h | h | h <;> (rw [h]; try rfl)
@[simp] theorem thermalStep_inputs (us : Nat) (s : State) : (thermalStep us s).inputs = s.inputs := by
  rcases thermalStep_cases us s with h | h | h | h <;> (rw [h]; try rfl)
/-- The thermal monitor leaves the platform as it is but for the power state of a trip. -/
theorem thermalStep_platform (us : Nat) (s : State) :
    (thermalStep us s).platform = { s.platform with powerState := (thermalStep us s).platform.powerState } := by
  rcases thermalStep_cases us s with h | h | h | h <;> (rw [h]; try rfl)
/-- A processor that has tripped stays as it is. -/
theorem thermalStep_tripped (us : Nat) {s : State} (h : s.thermal.mode = .tripped) : thermalStep us s = s := by
  unfold thermalStep
  rw [if_pos h, ite_self]

/-! ### setDieTemp -/

@[simp] theorem setDieTemp_pirom (s : State) (t : Int) : (setDieTemp t s).pirom = s.pirom := by simp [setDieTemp]
@[simp] theorem setDieTemp_scratch (s : State) (t : Int) : (setDieTemp t s).scratch = s.scratch := by simp [setDieTemp]
@[simp] theorem setDieTemp_sensor (s : State) (t : Int) : (setDieTemp t s).sensor = s.sensor := by simp [setDieTemp]
@[simp] theorem setDieTemp_answer (s : State) (t : Int) : (setDieTemp t s).answer = s.answer := by simp [setDieTemp]
@[simp] theorem setDieTemp_mem (s : State) (t : Int) : (setDieTemp t s).mem = s.mem := by simp [setDieTemp]
@[simp] theorem setDieTemp_inputs (s : State) (t : Int) : (setDieTemp t s).inputs = s.inputs := by simp [setDieTemp]

/-! ### State.setEeprom -/

@[simp] theorem State.setEeprom_core (s : State) (p : Bool) (e : Eeprom) : (s.setEeprom p e).core = s.core := by
  cases p <;> rfl
@[simp] theorem State.setEeprom_bus (s : State) (p : Bool) (e : Eeprom) : (s.setEeprom p e).bus = s.bus := by
  cases p <;> rfl
@[simp] theorem State.setEeprom_pirom (s : State) (p : Bool) (e : Eeprom) : (s.setEeprom p e).pirom = if p then e else s.pirom := by
  cases p <;> rfl
@[simp] theorem State.setEeprom_scratch (s : State) (p : Bool) (e : Eeprom) : (s.setEeprom p e).scratch = if p then s.scratch else e := by
  cases p <;> rfl
@[simp] theorem State.setEeprom_sensor (s : State) (p : Bool) (e : Eeprom) : (s.setEeprom p e).sensor = s.sensor := by
  cases p <;> rfl
@[simp] theorem State.setEeprom_thermal (s : State) (p : Bool) (e : Eeprom) : (s.setEeprom p e).thermal = s.thermal := by
  cases p <;> rfl
@[simp] theorem State.setEeprom_platform (s : State) (p : Bool) (e : Eeprom) : (s.setEeprom p e).platform = s.platform := by
  cases p <;> rfl
@[simp] theorem State.setEeprom_answer (s : State) (p : Bool) (e : Eeprom) : (s.setEeprom p e).answer = s.answer := by
  cases p <;> rfl
@[simp] theorem State.setEeprom_mem (s : State) (p : Bool) (e : Eeprom) : (s.setEeprom p e).mem = s.mem := by
  cases p <;> rfl
@[simp] theorem State.setEeprom_special (s : State) (p : Bool) (e : Eeprom) : (s.setEeprom p e).special = s.special := by
  cases p <;> rfl
@[simp] theorem State.setEeprom_inputs (s : State) (p : Bool) (e : Eeprom) : (s.setEeprom p e).inputs = s.inputs := by
  cases p <;> rfl
@[simp] theorem State.setEeprom_free (s : State) (p : Bool) (e : Eeprom) : (s.setEeprom p e).free = s.free := by
  cases p <;> rfl

/-! ### Core.take -/

@[simp] theorem Core.take_gr (s : Core) (e : Event) (v : Byte) : (s.take e v).gr = s.gr := rfl
@[simp] theorem Core.take_fr (s : Core) (e : Event) (v : Byte) : (s.take e v).fr = s.fr := rfl
@[simp] theorem Core.take_pr (s : Core) (e : Event) (v : Byte) : (s.take e v).pr = s.pr := rfl
@[simp] theorem Core.take_pc (s : Core) (e : Event) (v : Byte) :
    (s.take e v).pc = Config.handlerEntry e.number v := rfl
@[simp] theorem Core.take_run (s : Core) (e : Event) (v : Byte) : (s.take e v).run = s.run := rfl
@[simp] theorem Core.take_wait (s : Core) (e : Event) (v : Byte) : (s.take e v).wait = s.wait := rfl
@[simp] theorem Core.take_xtprValue (s : Core) (e : Event) (v : Byte) : (s.take e v).xtprValue = s.xtprValue := rfl
@[simp] theorem Core.take_xtprDisable (s : Core) (e : Event) (v : Byte) :
    (s.take e v).xtprDisable = s.xtprDisable := rfl
@[simp] theorem Core.take_lint0 (s : Core) (e : Event) (v : Byte) : (s.take e v).lint0 = s.lint0 := rfl
@[simp] theorem Core.take_lint1 (s : Core) (e : Event) (v : Byte) : (s.take e v).lint1 = s.lint1 := rfl
@[simp] theorem Core.take_nmiInService (s : Core) (e : Event) (v : Byte) :
    (s.take e v).nmiInService = (s.nmiInService || e == .nmi) := rfl
@[simp] theorem Core.take_nmiPending (s : Core) (e : Event) (v : Byte) : (s.take e v).nmiPending = s.nmiPending := rfl
@[simp] theorem Core.take_intMasked (s : Core) (e : Event) (v : Byte) : (s.take e v).intMasked = true := rfl
@[simp] theorem Core.take_pending (s : Core) (e : Event) (v : Byte) : (s.take e v).pending = s.pending := rfl
@[simp] theorem Core.take_saved (s : Core) (e : Event) (v : Byte) :
    (s.take e v).saved = { pc := s.pc, intMasked := s.intMasked, event := e, vector := v } :: s.saved := rfl
@[simp] theorem Core.take_cache (s : Core) (e : Event) (v : Byte) : (s.take e v).cache = s.cache := rfl
@[simp] theorem Core.take_tlb (s : Core) (e : Event) (v : Byte) : (s.take e v).tlb = s.tlb := rfl
@[simp] theorem Core.take_cpuidOut (s : Core) (e : Event) (v : Byte) : (s.take e v).cpuidOut = s.cpuidOut := rfl
@[simp] theorem Core.take_inbox (s : Core) (e : Event) (v : Byte) : (s.take e v).inbox = s.inbox := rfl

/-! ### Core.advance -/

@[simp] theorem Core.advance_gr (s : Core) (n : Nat) : (s.advance n).gr = s.gr := rfl
@[simp] theorem Core.advance_fr (s : Core) (n : Nat) : (s.advance n).fr = s.fr := rfl
@[simp] theorem Core.advance_pr (s : Core) (n : Nat) : (s.advance n).pr = s.pr := rfl
@[simp] theorem Core.advance_pc (s : Core) (n : Nat) : (s.advance n).pc = Config.nextPc n s.pc := rfl
@[simp] theorem Core.advance_run (s : Core) (n : Nat) : (s.advance n).run = s.run := rfl
@[simp] theorem Core.advance_wait (s : Core) (n : Nat) : (s.advance n).wait = s.wait := rfl
@[simp] theorem Core.advance_xtprValue (s : Core) (n : Nat) : (s.advance n).xtprValue = s.xtprValue := rfl
@[simp] theorem Core.advance_xtprDisable (s : Core) (n : Nat) : (s.advance n).xtprDisable = s.xtprDisable := rfl
@[simp] theorem Core.advance_lint0 (s : Core) (n : Nat) : (s.advance n).lint0 = s.lint0 := rfl
@[simp] theorem Core.advance_lint1 (s : Core) (n : Nat) : (s.advance n).lint1 = s.lint1 := rfl
@[simp] theorem Core.advance_nmiInService (s : Core) (n : Nat) : (s.advance n).nmiInService = s.nmiInService := rfl
@[simp] theorem Core.advance_nmiPending (s : Core) (n : Nat) : (s.advance n).nmiPending = s.nmiPending := rfl
@[simp] theorem Core.advance_intMasked (s : Core) (n : Nat) : (s.advance n).intMasked = s.intMasked := rfl
@[simp] theorem Core.advance_pending (s : Core) (n : Nat) : (s.advance n).pending = s.pending := rfl
@[simp] theorem Core.advance_saved (s : Core) (n : Nat) : (s.advance n).saved = s.saved := rfl
@[simp] theorem Core.advance_cache (s : Core) (n : Nat) : (s.advance n).cache = s.cache := rfl
@[simp] theorem Core.advance_tlb (s : Core) (n : Nat) : (s.advance n).tlb = s.tlb := rfl
@[simp] theorem Core.advance_cpuidOut (s : Core) (n : Nat) : (s.advance n).cpuidOut = s.cpuidOut := rfl
@[simp] theorem Core.advance_inbox (s : Core) (n : Nat) : (s.advance n).inbox = s.inbox := rfl

/-! ### Bus.enqueue -/

@[simp] theorem Bus.enqueue_poc (s : Bus) (qs : List OutReq) : (s.enqueue qs).poc = s.poc := rfl
@[simp] theorem Bus.enqueue_arbId (s : Bus) (qs : List OutReq) : (s.enqueue qs).arbId = s.arbId := rfl
@[simp] theorem Bus.enqueue_rotatingId (s : Bus) (qs : List OutReq) : (s.enqueue qs).rotatingId = s.rotatingId := rfl
@[simp] theorem Bus.enqueue_owner (s : Bus) (qs : List OutReq) : (s.enqueue qs).owner = s.owner := rfl
@[simp] theorem Bus.enqueue_breqOut (s : Bus) (qs : List OutReq) : (s.enqueue qs).breqOut = s.breqOut := rfl
@[simp] theorem Bus.enqueue_breqLow (s : Bus) (qs : List OutReq) : (s.enqueue qs).breqLow = s.breqLow := rfl
@[simp] theorem Bus.enqueue_stalled (s : Bus) (qs : List OutReq) : (s.enqueue qs).stalled = s.stalled := rfl
@[simp] theorem Bus.enqueue_bpriSeen (s : Bus) (qs : List OutReq) : (s.enqueue qs).bpriSeen = s.bpriSeen := rfl
@[simp] theorem Bus.enqueue_sinceAds (s : Bus) (qs : List OutReq) : (s.enqueue qs).sinceAds = s.sinceAds := rfl
@[simp] theorem Bus.enqueue_latchA (s : Bus) (qs : List OutReq) : (s.enqueue qs).latchA = s.latchA := rfl
@[simp] theorem Bus.enqueue_issuing (s : Bus) (qs : List OutReq) : (s.enqueue qs).issuing = s.issuing := rfl
@[simp] theorem Bus.enqueue_nextB (s : Bus) (qs : List OutReq) : (s.enqueue qs).nextB = s.nextB := rfl
@[simp] theorem Bus.enqueue_outQ (s : Bus) (qs : List OutReq) : (s.enqueue qs).outQ = s.outQ ++ qs := rfl
@[simp] theorem Bus.enqueue_ioq (s : Bus) (qs : List OutReq) : (s.enqueue qs).ioq = s.ioq := rfl
@[simp] theorem Bus.enqueue_deferred (s : Bus) (qs : List OutReq) : (s.enqueue qs).deferred = s.deferred := rfl
@[simp] theorem Bus.enqueue_idLatch (s : Bus) (qs : List OutReq) : (s.enqueue qs).idLatch = s.idLatch := rfl
@[simp] theorem Bus.enqueue_tlbPurging (s : Bus) (qs : List OutReq) : (s.enqueue qs).tlbPurging = s.tlbPurging := rfl
@[simp] theorem Bus.enqueue_out (s : Bus) (qs : List OutReq) : (s.enqueue qs).out = s.out := rfl
@[simp] theorem Bus.enqueue_lint0 (s : Bus) (qs : List OutReq) : (s.enqueue qs).lint0 = s.lint0 := rfl
@[simp] theorem Bus.enqueue_lint1 (s : Bus) (qs : List OutReq) : (s.enqueue qs).lint1 = s.lint1 := rfl
@[simp] theorem Bus.enqueue_init (s : Bus) (qs : List OutReq) : (s.enqueue qs).init = s.init := rfl
@[simp] theorem Bus.enqueue_pmi (s : Bus) (qs : List OutReq) : (s.enqueue qs).pmi = s.pmi := rfl
@[simp] theorem Bus.enqueue_inReset (s : Bus) (qs : List OutReq) : (s.enqueue qs).inReset = s.inReset := rfl
@[simp] theorem Bus.enqueue_configClocks (s : Bus) (qs : List OutReq) :
    (s.enqueue qs).configClocks = s.configClocks := rfl

/-! ### Bus.append -/

@[simp] theorem Bus.append_poc (s : Bus) (row : BusRow) (r : Request) (q : Bool) (len : BitVec 3) :
    (s.append row r q len).poc = s.poc := rfl
@[simp] theorem Bus.append_arbId (s : Bus) (row : BusRow) (r : Request) (q : Bool) (len : BitVec 3) :
    (s.append row r q len).arbId = s.arbId := rfl
@[simp] theorem Bus.append_rotatingId (s : Bus) (row : BusRow) (r : Request) (q : Bool) (len : BitVec 3) :
    (s.append row r q len).rotatingId = s.rotatingId := rfl
@[simp] theorem Bus.append_owner (s : Bus) (row : BusRow) (r : Request) (q : Bool) (len : BitVec 3) :
    (s.append row r q len).owner = s.owner := rfl
@[simp] theorem Bus.append_breqOut (s : Bus) (row : BusRow) (r : Request) (q : Bool) (len : BitVec 3) :
    (s.append row r q len).breqOut = s.breqOut := rfl
@[simp] theorem Bus.append_breqLow (s : Bus) (row : BusRow) (r : Request) (q : Bool) (len : BitVec 3) :
    (s.append row r q len).breqLow = s.breqLow := rfl
@[simp] theorem Bus.append_stalled (s : Bus) (row : BusRow) (r : Request) (q : Bool) (len : BitVec 3) :
    (s.append row r q len).stalled = s.stalled := rfl
@[simp] theorem Bus.append_bpriSeen (s : Bus) (row : BusRow) (r : Request) (q : Bool) (len : BitVec 3) :
    (s.append row r q len).bpriSeen = s.bpriSeen := rfl
@[simp] theorem Bus.append_sinceAds (s : Bus) (row : BusRow) (r : Request) (q : Bool) (len : BitVec 3) :
    (s.append row r q len).sinceAds = s.sinceAds := rfl
@[simp] theorem Bus.append_latchA (s : Bus) (row : BusRow) (r : Request) (q : Bool) (len : BitVec 3) :
    (s.append row r q len).latchA = s.latchA := rfl
@[simp] theorem Bus.append_issuing (s : Bus) (row : BusRow) (r : Request) (q : Bool) (len : BitVec 3) :
    (s.append row r q len).issuing = if r.isOwn s.arbId then s.issuing.drop 1 else s.issuing := rfl
@[simp] theorem Bus.append_nextB (s : Bus) (row : BusRow) (r : Request) (q : Bool) (len : BitVec 3) :
    (s.append row r q len).nextB = s.nextB := rfl
@[simp] theorem Bus.append_outQ (s : Bus) (row : BusRow) (r : Request) (q : Bool) (len : BitVec 3) :
    (s.append row r q len).outQ = s.outQ := rfl
@[simp] theorem Bus.append_ioq (s : Bus) (row : BusRow) (r : Request) (q : Bool) (len : BitVec 3) :
    (s.append row r q len).ioq = s.ioq ++ [newTxn row r q len (s.sourceOf r)] := rfl
@[simp] theorem Bus.append_deferred (s : Bus) (row : BusRow) (r : Request) (q : Bool) (len : BitVec 3) :
    (s.append row r q len).deferred = s.deferred := rfl
@[simp] theorem Bus.append_idLatch (s : Bus) (row : BusRow) (r : Request) (q : Bool) (len : BitVec 3) :
    (s.append row r q len).idLatch = s.idLatch := rfl
@[simp] theorem Bus.append_tlbPurging (s : Bus) (row : BusRow) (r : Request) (q : Bool) (len : BitVec 3) :
    (s.append row r q len).tlbPurging = s.tlbPurging := rfl
@[simp] theorem Bus.append_out (s : Bus) (row : BusRow) (r : Request) (q : Bool) (len : BitVec 3) :
    (s.append row r q len).out = s.out := rfl
@[simp] theorem Bus.append_lint0 (s : Bus) (row : BusRow) (r : Request) (q : Bool) (len : BitVec 3) :
    (s.append row r q len).lint0 = s.lint0 := rfl
@[simp] theorem Bus.append_lint1 (s : Bus) (row : BusRow) (r : Request) (q : Bool) (len : BitVec 3) :
    (s.append row r q len).lint1 = s.lint1 := rfl
@[simp] theorem Bus.append_init (s : Bus) (row : BusRow) (r : Request) (q : Bool) (len : BitVec 3) :
    (s.append row r q len).init = s.init := rfl
@[simp] theorem Bus.append_pmi (s : Bus) (row : BusRow) (r : Request) (q : Bool) (len : BitVec 3) :
    (s.append row r q len).pmi = s.pmi := rfl
@[simp] theorem Bus.append_inReset (s : Bus) (row : BusRow) (r : Request) (q : Bool) (len : BitVec 3) :
    (s.append row r q len).inReset = s.inReset := rfl
@[simp] theorem Bus.append_configClocks (s : Bus) (row : BusRow) (r : Request) (q : Bool) (len : BitVec 3) :
    (s.append row r q len).configClocks = s.configClocks := rfl

/-! ### Bus.resetFsm -/

@[simp] theorem Bus.resetFsm_poc (s : Bus) : (s.resetFsm).poc = s.poc := rfl
@[simp] theorem Bus.resetFsm_arbId (s : Bus) : (s.resetFsm).arbId = s.arbId := rfl
@[simp] theorem Bus.resetFsm_rotatingId (s : Bus) : (s.resetFsm).rotatingId = 3 := rfl
@[simp] theorem Bus.resetFsm_owner (s : Bus) : (s.resetFsm).owner = none := rfl
@[simp] theorem Bus.resetFsm_breqOut (s : Bus) : (s.resetFsm).breqOut = false := rfl
@[simp] theorem Bus.resetFsm_breqLow (s : Bus) : (s.resetFsm).breqLow = 1 := rfl
@[simp] theorem Bus.resetFsm_stalled (s : Bus) : (s.resetFsm).stalled = s.stalled := rfl
@[simp] theorem Bus.resetFsm_bpriSeen (s : Bus) : (s.resetFsm).bpriSeen = s.bpriSeen := rfl
@[simp] theorem Bus.resetFsm_sinceAds (s : Bus) : (s.resetFsm).sinceAds = 0 := rfl
@[simp] theorem Bus.resetFsm_latchA (s : Bus) : (s.resetFsm).latchA = none := rfl
@[simp] theorem Bus.resetFsm_issuing (s : Bus) : (s.resetFsm).issuing = [] := rfl
@[simp] theorem Bus.resetFsm_nextB (s : Bus) : (s.resetFsm).nextB = none := rfl
@[simp] theorem Bus.resetFsm_outQ (s : Bus) : (s.resetFsm).outQ = s.outQ := rfl
@[simp] theorem Bus.resetFsm_ioq (s : Bus) : (s.resetFsm).ioq = [] := rfl
@[simp] theorem Bus.resetFsm_deferred (s : Bus) : (s.resetFsm).deferred = [] := rfl
@[simp] theorem Bus.resetFsm_idLatch (s : Bus) : (s.resetFsm).idLatch = none := rfl
@[simp] theorem Bus.resetFsm_tlbPurging (s : Bus) : (s.resetFsm).tlbPurging = s.tlbPurging := rfl
@[simp] theorem Bus.resetFsm_out (s : Bus) : (s.resetFsm).out = PinsOut.idle := rfl
@[simp] theorem Bus.resetFsm_lint0 (s : Bus) : (s.resetFsm).lint0 = s.lint0 := rfl
@[simp] theorem Bus.resetFsm_lint1 (s : Bus) : (s.resetFsm).lint1 = s.lint1 := rfl
@[simp] theorem Bus.resetFsm_init (s : Bus) : (s.resetFsm).init = s.init := rfl
@[simp] theorem Bus.resetFsm_pmi (s : Bus) : (s.resetFsm).pmi = s.pmi := rfl
@[simp] theorem Bus.resetFsm_inReset (s : Bus) : (s.resetFsm).inReset = s.inReset := rfl
@[simp] theorem Bus.resetFsm_configClocks (s : Bus) : (s.resetFsm).configClocks = s.configClocks := rfl

/-! ### Sensor.commanded -/

@[simp] theorem Sensor.commanded_temp (s : Sensor) (c : Byte) : (s.commanded c).temp = s.temp := rfl
@[simp] theorem Sensor.commanded_tempInternal (s : Sensor) (c : Byte) :
    (s.commanded c).tempInternal = s.tempInternal := rfl
@[simp] theorem Sensor.commanded_rhigh (s : Sensor) (c : Byte) : (s.commanded c).rhigh = s.rhigh := rfl
@[simp] theorem Sensor.commanded_rlow (s : Sensor) (c : Byte) : (s.commanded c).rlow = s.rlow := rfl
@[simp] theorem Sensor.commanded_openFault (s : Sensor) (c : Byte) : (s.commanded c).openFault = s.openFault := rfl
@[simp] theorem Sensor.commanded_config (s : Sensor) (c : Byte) : (s.commanded c).config = s.config := rfl
@[simp] theorem Sensor.commanded_convrate (s : Sensor) (c : Byte) : (s.commanded c).convrate = s.convrate := rfl
@[simp] theorem Sensor.commanded_rsv05 (s : Sensor) (c : Byte) : (s.commanded c).rsv05 = s.rsv05 := rfl
@[simp] theorem Sensor.commanded_rsv06 (s : Sensor) (c : Byte) : (s.commanded c).rsv06 = s.rsv06 := rfl
@[simp] theorem Sensor.commanded_thigh (s : Sensor) (c : Byte) : (s.commanded c).thigh = s.thigh := rfl
@[simp] theorem Sensor.commanded_tlow (s : Sensor) (c : Byte) : (s.commanded c).tlow = s.tlow := rfl
@[simp] theorem Sensor.commanded_cmdPointer (s : Sensor) (c : Byte) : (s.commanded c).cmdPointer = c := rfl
@[simp] theorem Sensor.commanded_cmdValid (s : Sensor) (c : Byte) : (s.commanded c).cmdValid = true := rfl
@[simp] theorem Sensor.commanded_alertLatch (s : Sensor) (c : Byte) : (s.commanded c).alertLatch = s.alertLatch := rfl
@[simp] theorem Sensor.commanded_converting (s : Sensor) (c : Byte) : (s.commanded c).converting = s.converting := rfl
@[simp] theorem Sensor.commanded_convLeft (s : Sensor) (c : Byte) : (s.commanded c).convLeft = s.convLeft := rfl
@[simp] theorem Sensor.commanded_rateTimer (s : Sensor) (c : Byte) : (s.commanded c).rateTimer = s.rateTimer := rfl
@[simp] theorem Sensor.commanded_rateMill (s : Sensor) (c : Byte) : (s.commanded c).rateMill = s.rateMill := rfl
@[simp] theorem Sensor.commanded_openCond (s : Sensor) (c : Byte) : (s.commanded c).openCond = s.openCond := rfl

/-! ### Sensor.writeCommanded -/

@[simp] theorem Sensor.writeCommanded_temp (s : Sensor) (c : Byte) : (s.writeCommanded c).temp = s.temp := rfl
@[simp] theorem Sensor.writeCommanded_tempInternal (s : Sensor) (c : Byte) :
    (s.writeCommanded c).tempInternal = s.tempInternal := rfl
@[simp] theorem Sensor.writeCommanded_rhigh (s : Sensor) (c : Byte) : (s.writeCommanded c).rhigh = s.rhigh := rfl
@[simp] theorem Sensor.writeCommanded_rlow (s : Sensor) (c : Byte) : (s.writeCommanded c).rlow = s.rlow := rfl
@[simp] theorem Sensor.writeCommanded_openFault (s : Sensor) (c : Byte) :
    (s.writeCommanded c).openFault = s.openFault := rfl
@[simp] theorem Sensor.writeCommanded_config (s : Sensor) (c : Byte) : (s.writeCommanded c).config = s.config := rfl
@[simp] theorem Sensor.writeCommanded_convrate (s : Sensor) (c : Byte) :
    (s.writeCommanded c).convrate = s.convrate := rfl
@[simp] theorem Sensor.writeCommanded_rsv05 (s : Sensor) (c : Byte) : (s.writeCommanded c).rsv05 = s.rsv05 := rfl
@[simp] theorem Sensor.writeCommanded_rsv06 (s : Sensor) (c : Byte) : (s.writeCommanded c).rsv06 = s.rsv06 := rfl
@[simp] theorem Sensor.writeCommanded_thigh (s : Sensor) (c : Byte) : (s.writeCommanded c).thigh = s.thigh := rfl
@[simp] theorem Sensor.writeCommanded_tlow (s : Sensor) (c : Byte) : (s.writeCommanded c).tlow = s.tlow := rfl
@[simp] theorem Sensor.writeCommanded_cmdPointer (s : Sensor) (c : Byte) : (s.writeCommanded c).cmdPointer = c := rfl
@[simp] theorem Sensor.writeCommanded_cmdValid (s : Sensor) (c : Byte) : (s.writeCommanded c).cmdValid = false := rfl
@[simp] theorem Sensor.writeCommanded_alertLatch (s : Sensor) (c : Byte) :
    (s.writeCommanded c).alertLatch = s.alertLatch := rfl
@[simp] theorem Sensor.writeCommanded_converting (s : Sensor) (c : Byte) :
    (s.writeCommanded c).converting = s.converting := rfl
@[simp] theorem Sensor.writeCommanded_convLeft (s : Sensor) (c : Byte) :
    (s.writeCommanded c).convLeft = s.convLeft := rfl
@[simp] theorem Sensor.writeCommanded_rateTimer (s : Sensor) (c : Byte) :
    (s.writeCommanded c).rateTimer = s.rateTimer := rfl
@[simp] theorem Sensor.writeCommanded_rateMill (s : Sensor) (c : Byte) :
    (s.writeCommanded c).rateMill = s.rateMill := rfl
@[simp] theorem Sensor.writeCommanded_openCond (s : Sensor) (c : Byte) :
    (s.writeCommanded c).openCond = s.openCond := rfl

/-! ### Sensor.statusRead -/

@[simp] theorem Sensor.statusRead_temp (s : Sensor) : (s.statusRead).temp = s.temp := rfl
@[simp] theorem Sensor.statusRead_tempInternal (s : Sensor) : (s.statusRead).tempInternal = s.tempInternal := rfl
@[simp] theorem Sensor.statusRead_rhigh (s : Sensor) : (s.statusRead).rhigh = (s.rhigh && highCond s) := rfl
@[simp] theorem Sensor.statusRead_rlow (s : Sensor) : (s.statusRead).rlow = (s.rlow && lowCond s) := rfl
@[simp] theorem Sensor.statusRead_openFault (s : Sensor) :
    (s.statusRead).openFault = (s.openFault && s.openCond) := rfl
@[simp] theorem Sensor.statusRead_config (s : Sensor) : (s.statusRead).config = s.config := rfl
@[simp] theorem Sensor.statusRead_convrate (s : Sensor) : (s.statusRead).convrate = s.convrate := rfl
@[simp] theorem Sensor.statusRead_rsv05 (s : Sensor) : (s.statusRead).rsv05 = s.rsv05 := rfl
@[simp] theorem Sensor.statusRead_rsv06 (s : Sensor) : (s.statusRead).rsv06 = s.rsv06 := rfl
@[simp] theorem Sensor.statusRead_thigh (s : Sensor) : (s.statusRead).thigh = s.thigh := rfl
@[simp] theorem Sensor.statusRead_tlow (s : Sensor) : (s.statusRead).tlow = s.tlow := rfl
@[simp] theorem Sensor.statusRead_cmdPointer (s : Sensor) : (s.statusRead).cmdPointer = s.cmdPointer := rfl
@[simp] theorem Sensor.statusRead_cmdValid (s : Sensor) : (s.statusRead).cmdValid = s.cmdValid := rfl
@[simp] theorem Sensor.statusRead_alertLatch (s : Sensor) : (s.statusRead).alertLatch = s.alertLatch := rfl
@[simp] theorem Sensor.statusRead_converting (s : Sensor) : (s.statusRead).converting = s.converting := rfl
@[simp] theorem Sensor.statusRead_convLeft (s : Sensor) : (s.statusRead).convLeft = s.convLeft := rfl
@[simp] theorem Sensor.statusRead_rateTimer (s : Sensor) : (s.statusRead).rateTimer = s.rateTimer := rfl
@[simp] theorem Sensor.statusRead_rateMill (s : Sensor) : (s.statusRead).rateMill = s.rateMill := rfl
@[simp] theorem Sensor.statusRead_openCond (s : Sensor) : (s.statusRead).openCond = s.openCond := rfl

/-! ### Sensor.startConversion -/

@[simp] theorem Sensor.startConversion_temp (s : Sensor) : (s.startConversion).temp = s.temp := rfl
@[simp] theorem Sensor.startConversion_tempInternal (s : Sensor) :
    (s.startConversion).tempInternal = s.tempInternal := rfl
@[simp] theorem Sensor.startConversion_rhigh (s : Sensor) : (s.startConversion).rhigh = s.rhigh := rfl
@[simp] theorem Sensor.startConversion_rlow (s : Sensor) : (s.startConversion).rlow = s.rlow := rfl
@[simp] theorem Sensor.startConversion_openFault (s : Sensor) : (s.startConversion).openFault = s.openFault := rfl
@[simp] theorem Sensor.startConversion_config (s : Sensor) : (s.startConversion).config = s.config := rfl
@[simp] theorem Sensor.startConversion_convrate (s : Sensor) : (s.startConversion).convrate = s.convrate := rfl
@[simp] theorem Sensor.startConversion_rsv05 (s : Sensor) : (s.startConversion).rsv05 = s.rsv05 := rfl
@[simp] theorem Sensor.startConversion_rsv06 (s : Sensor) : (s.startConversion).rsv06 = s.rsv06 := rfl
@[simp] theorem Sensor.startConversion_thigh (s : Sensor) : (s.startConversion).thigh = s.thigh := rfl
@[simp] theorem Sensor.startConversion_tlow (s : Sensor) : (s.startConversion).tlow = s.tlow := rfl
@[simp] theorem Sensor.startConversion_cmdPointer (s : Sensor) : (s.startConversion).cmdPointer = s.cmdPointer := rfl
@[simp] theorem Sensor.startConversion_cmdValid (s : Sensor) : (s.startConversion).cmdValid = s.cmdValid := rfl
@[simp] theorem Sensor.startConversion_alertLatch (s : Sensor) : (s.startConversion).alertLatch = s.alertLatch := rfl
@[simp] theorem Sensor.startConversion_converting (s : Sensor) : (s.startConversion).converting = true := rfl
@[simp] theorem Sensor.startConversion_convLeft (s : Sensor) : (s.startConversion).convLeft = Config.tConv := rfl
@[simp] theorem Sensor.startConversion_rateTimer (s : Sensor) : (s.startConversion).rateTimer = s.rateTimer := rfl
@[simp] theorem Sensor.startConversion_rateMill (s : Sensor) : (s.startConversion).rateMill = s.rateMill := rfl
@[simp] theorem Sensor.startConversion_openCond (s : Sensor) : (s.startConversion).openCond = s.openCond := rfl

/-! ### Eeprom.load -/

@[simp] theorem Eeprom.load_mem (s : Eeprom) (d : Byte) : (s.load d).mem = s.mem := rfl
@[simp] theorem Eeprom.load_counter (s : Eeprom) (d : Byte) : (s.load d).counter = dataOffset d := rfl

/-! ### Eeprom.advance -/

@[simp] theorem Eeprom.advance_mem (s : Eeprom) : (s.advance).mem = s.mem := rfl
@[simp] theorem Eeprom.advance_counter (s : Eeprom) : (s.advance).counter = nextRead s.counter := rfl

/-! ### Eeprom.store -/

@[simp] theorem Eeprom.store_mem (s : Eeprom) (d : Byte) : (s.store d).mem = s.mem.set s.counter.toNat d := rfl
@[simp] theorem Eeprom.store_counter (s : Eeprom) (d : Byte) : (s.store d).counter = nextWrite s.counter := rfl

/-! ### Eeprom.protectedWrite -/

@[simp] theorem Eeprom.protectedWrite_mem (s : Eeprom) (d : Byte) (a : Bool) (f : BitVec 7) :
    (s.protectedWrite d a f).mem = s.mem := rfl
@[simp] theorem Eeprom.protectedWrite_counter (s : Eeprom) (d : Byte) (a : Bool) (f : BitVec 7) :
    (s.protectedWrite d a f).counter = if a then f else dataOffset d := rfl

end Sys2Proof.Machine
end

