-- ==== Sys2Proof/Laws/BusFrame.lean ====
section
/-! SUPPORT. What the phases of a bus clock leave alone: one lemma for each phase and each part of the state. -/

namespace Sys2Proof.Machine

/-! ### sampleBerr -/

@[simp] theorem sampleBerr_pirom (q : Pins) (s : State) : (sampleBerr q s).pirom = s.pirom := by
  unfold sampleBerr; split <;> rfl
@[simp] theorem sampleBerr_scratch (q : Pins) (s : State) : (sampleBerr q s).scratch = s.scratch := by
  unfold sampleBerr; split <;> rfl
@[simp] theorem sampleBerr_sensor (q : Pins) (s : State) : (sampleBerr q s).sensor = s.sensor := by
  unfold sampleBerr; split <;> rfl
@[simp] theorem sampleBerr_thermal (q : Pins) (s : State) : (sampleBerr q s).thermal = s.thermal := by
  unfold sampleBerr; split <;> rfl
@[simp] theorem sampleBerr_platform (q : Pins) (s : State) : (sampleBerr q s).platform = s.platform := by
  unfold sampleBerr; split <;> rfl
@[simp] theorem sampleBerr_answer (q : Pins) (s : State) : (sampleBerr q s).answer = s.answer := by
  unfold sampleBerr; split <;> rfl
@[simp] theorem sampleBerr_special (q : Pins) (s : State) : (sampleBerr q s).special = s.special := by
  unfold sampleBerr; split <;> rfl
@[simp] theorem sampleBerr_inputs (q : Pins) (s : State) : (sampleBerr q s).inputs = s.inputs := by
  unfold sampleBerr; split <;> rfl
@[simp] theorem sampleBerr_bus (q : Pins) (s : State) : (sampleBerr q s).bus = s.bus := by
  unfold sampleBerr; split <;> rfl
@[simp] theorem sampleBerr_mem (q : Pins) (s : State) : (sampleBerr q s).mem = s.mem := by
  unfold sampleBerr; split <;> rfl
@[simp] theorem sampleBerr_free (q : Pins) (s : State) : (sampleBerr q s).free = s.free := by
  unfold sampleBerr; split <;> rfl

/-! ### samplePins -/

@[simp] theorem samplePins_pirom (q : Pins) (s : State) : (samplePins q s).pirom = s.pirom := by
  rfl
@[simp] theorem samplePins_scratch (q : Pins) (s : State) : (samplePins q s).scratch = s.scratch := by
  rfl
@[simp] theorem samplePins_sensor (q : Pins) (s : State) : (samplePins q s).sensor = s.sensor := by
  rfl
@[simp] theorem samplePins_thermal (q : Pins) (s : State) : (samplePins q s).thermal = s.thermal := by
  rfl
@[simp] theorem samplePins_platform (q : Pins) (s : State) : (samplePins q s).platform = s.platform := by
  rfl
@[simp] theorem samplePins_answer (q : Pins) (s : State) : (samplePins q s).answer = s.answer := by
  rfl
@[simp] theorem samplePins_special (q : Pins) (s : State) : (samplePins q s).special = s.special := by
  rfl
@[simp] theorem samplePins_inputs (q : Pins) (s : State) : (samplePins q s).inputs = s.inputs := by
  rfl
@[simp] theorem samplePins_mem (q : Pins) (s : State) : (samplePins q s).mem = s.mem := by
  rfl
@[simp] theorem samplePins_free (q : Pins) (s : State) : (samplePins q s).free = s.free := by
  rfl

/-! ### snoopPhase -/

@[simp] theorem snoopPhase_pirom (q : Pins) (s : State) : (snoopPhase q s).pirom = s.pirom := by
  unfold snoopPhase; split <;> rfl
@[simp] theorem snoopPhase_scratch (q : Pins) (s : State) : (snoopPhase q s).scratch = s.scratch := by
  unfold snoopPhase; split <;> rfl
@[simp] theorem snoopPhase_sensor (q : Pins) (s : State) : (snoopPhase q s).sensor = s.sensor := by
  unfold snoopPhase; split <;> rfl
@[simp] theorem snoopPhase_thermal (q : Pins) (s : State) : (snoopPhase q s).thermal = s.thermal := by
  unfold snoopPhase; split <;> rfl
@[simp] theorem snoopPhase_platform (q : Pins) (s : State) : (snoopPhase q s).platform = s.platform := by
  unfold snoopPhase; split <;> rfl
@[simp] theorem snoopPhase_answer (q : Pins) (s : State) : (snoopPhase q s).answer = s.answer := by
  unfold snoopPhase; split <;> rfl
@[simp] theorem snoopPhase_special (q : Pins) (s : State) : (snoopPhase q s).special = s.special := by
  unfold snoopPhase; split <;> rfl
@[simp] theorem snoopPhase_inputs (q : Pins) (s : State) : (snoopPhase q s).inputs = s.inputs := by
  unfold snoopPhase; split <;> rfl
@[simp] theorem snoopPhase_core (q : Pins) (s : State) : (snoopPhase q s).core = s.core := by
  unfold snoopPhase; split <;> rfl
@[simp] theorem snoopPhase_mem (q : Pins) (s : State) : (snoopPhase q s).mem = s.mem := by
  unfold snoopPhase; split <;> rfl
@[simp] theorem snoopPhase_free (q : Pins) (s : State) : (snoopPhase q s).free = s.free := by
  unfold snoopPhase; split <;> rfl

/-! ### responsePhase -/

@[simp] theorem responsePhase_pirom (q : Pins) (s : State) : (responsePhase q s).pirom = s.pirom := by
  rfl
@[simp] theorem responsePhase_scratch (q : Pins) (s : State) : (responsePhase q s).scratch = s.scratch := by
  rfl
@[simp] theorem responsePhase_sensor (q : Pins) (s : State) : (responsePhase q s).sensor = s.sensor := by
  rfl
@[simp] theorem responsePhase_thermal (q : Pins) (s : State) : (responsePhase q s).thermal = s.thermal := by
  rfl
@[simp] theorem responsePhase_platform (q : Pins) (s : State) : (responsePhase q s).platform = s.platform := by
  rfl
@[simp] theorem responsePhase_answer (q : Pins) (s : State) : (responsePhase q s).answer = s.answer := by
  rfl
@[simp] theorem responsePhase_special (q : Pins) (s : State) : (responsePhase q s).special = s.special := by
  rfl
@[simp] theorem responsePhase_inputs (q : Pins) (s : State) : (responsePhase q s).inputs = s.inputs := by
  rfl
@[simp] theorem responsePhase_core (q : Pins) (s : State) : (responsePhase q s).core = s.core := by
  rfl
@[simp] theorem responsePhase_mem (q : Pins) (s : State) : (responsePhase q s).mem = s.mem := by
  rfl
@[simp] theorem responsePhase_free (q : Pins) (s : State) : (responsePhase q s).free = s.free := by
  rfl

/-! ### dataPhase -/

@[simp] theorem dataPhase_pirom (q : Pins) (s : State) : (dataPhase q s).pirom = s.pirom := by
  unfold dataPhase; split <;> rfl
@[simp] theorem dataPhase_scratch (q : Pins) (s : State) : (dataPhase q s).scratch = s.scratch := by
  unfold dataPhase; split <;> rfl
@[simp] theorem dataPhase_sensor (q : Pins) (s : State) : (dataPhase q s).sensor = s.sensor := by
  unfold dataPhase; split <;> rfl
@[simp] theorem dataPhase_thermal (q : Pins) (s : State) : (dataPhase q s).thermal = s.thermal := by
  unfold dataPhase; split <;> rfl
@[simp] theorem dataPhase_platform (q : Pins) (s : State) : (dataPhase q s).platform = s.platform := by
  unfold dataPhase; split <;> rfl
@[simp] theorem dataPhase_answer (q : Pins) (s : State) : (dataPhase q s).answer = s.answer := by
  unfold dataPhase; split <;> rfl
@[simp] theorem dataPhase_special (q : Pins) (s : State) : (dataPhase q s).special = s.special := by
  unfold dataPhase; split <;> rfl
@[simp] theorem dataPhase_inputs (q : Pins) (s : State) : (dataPhase q s).inputs = s.inputs := by
  unfold dataPhase; split <;> rfl
@[simp] theorem dataPhase_core (q : Pins) (s : State) : (dataPhase q s).core = s.core := by
  unfold dataPhase; split <;> rfl
@[simp] theorem dataPhase_mem (q : Pins) (s : State) : (dataPhase q s).mem = s.mem := by
  unfold dataPhase; split <;> rfl

/-! ### deferredPhase -/

@[simp] theorem deferredPhase_pirom (q : Pins) (s : State) : (deferredPhase q s).pirom = s.pirom := by
  rfl
@[simp] theorem deferredPhase_scratch (q : Pins) (s : State) : (deferredPhase q s).scratch = s.scratch := by
  rfl
@[simp] theorem deferredPhase_sensor (q : Pins) (s : State) : (deferredPhase q s).sensor = s.sensor := by
  rfl
@[simp] theorem deferredPhase_thermal (q : Pins) (s : State) : (deferredPhase q s).thermal = s.thermal := by
  rfl
@[simp] theorem deferredPhase_platform (q : Pins) (s : State) : (deferredPhase q s).platform = s.platform := by
  rfl
@[simp] theorem deferredPhase_answer (q : Pins) (s : State) : (deferredPhase q s).answer = s.answer := by
  rfl
@[simp] theorem deferredPhase_special (q : Pins) (s : State) : (deferredPhase q s).special = s.special := by
  rfl
@[simp] theorem deferredPhase_inputs (q : Pins) (s : State) : (deferredPhase q s).inputs = s.inputs := by
  rfl
@[simp] theorem deferredPhase_core (q : Pins) (s : State) : (deferredPhase q s).core = s.core := by
  rfl
@[simp] theorem deferredPhase_mem (q : Pins) (s : State) : (deferredPhase q s).mem = s.mem := by
  rfl
@[simp] theorem deferredPhase_free (q : Pins) (s : State) : (deferredPhase q s).free = s.free := by
  rfl

/-! ### sampleTnd -/

@[simp] theorem sampleTnd_pirom (q : Pins) (s : State) : (sampleTnd q s).pirom = s.pirom := by
  unfold sampleTnd; split <;> rfl
@[simp] theorem sampleTnd_scratch (q : Pins) (s : State) : (sampleTnd q s).scratch = s.scratch := by
  unfold sampleTnd; split <;> rfl
@[simp] theorem sampleTnd_sensor (q : Pins) (s : State) : (sampleTnd q s).sensor = s.sensor := by
  unfold sampleTnd; split <;> rfl
@[simp] theorem sampleTnd_thermal (q : Pins) (s : State) : (sampleTnd q s).thermal = s.thermal := by
  unfold sampleTnd; split <;> rfl
@[simp] theorem sampleTnd_platform (q : Pins) (s : State) : (sampleTnd q s).platform = s.platform := by
  unfold sampleTnd; split <;> rfl
@[simp] theorem sampleTnd_answer (q : Pins) (s : State) : (sampleTnd q s).answer = s.answer := by
  unfold sampleTnd; split <;> rfl
@[simp] theorem sampleTnd_special (q : Pins) (s : State) : (sampleTnd q s).special = s.special := by
  unfold sampleTnd; split <;> rfl
@[simp] theorem sampleTnd_inputs (q : Pins) (s : State) : (sampleTnd q s).inputs = s.inputs := by
  unfold sampleTnd; split <;> rfl
@[simp] theorem sampleTnd_bus (q : Pins) (s : State) : (sampleTnd q s).bus = s.bus := by
  unfold sampleTnd; split <;> rfl
@[simp] theorem sampleTnd_mem (q : Pins) (s : State) : (sampleTnd q s).mem = s.mem := by
  unfold sampleTnd; split <;> rfl
@[simp] theorem sampleTnd_free (q : Pins) (s : State) : (sampleTnd q s).free = s.free := by
  unfold sampleTnd; split <;> rfl

/-! ### completeTxn -/

@[simp] theorem completeTxn_pirom (t : Txn) (ok : Bool) (s : State) : (completeTxn t ok s).pirom = s.pirom := by
  rfl
@[simp] theorem completeTxn_scratch (t : Txn) (ok : Bool) (s : State) : (completeTxn t ok s).scratch = s.scratch := by
  rfl
@[simp] theorem completeTxn_sensor (t : Txn) (ok : Bool) (s : State) : (completeTxn t ok s).sensor = s.sensor := by
  rfl
@[simp] theorem completeTxn_thermal (t : Txn) (ok : Bool) (s : State) : (completeTxn t ok s).thermal = s.thermal := by
  rfl
@[simp] theorem completeTxn_platform (t : Txn) (ok : Bool) (s : State) : (completeTxn t ok s).platform = s.platform := by
  rfl
@[simp] theorem completeTxn_answer (t : Txn) (ok : Bool) (s : State) : (completeTxn t ok s).answer = s.answer := by
  rfl
@[simp] theorem completeTxn_special (t : Txn) (ok : Bool) (s : State) : (completeTxn t ok s).special = s.special := by
  rfl
@[simp] theorem completeTxn_inputs (t : Txn) (ok : Bool) (s : State) : (completeTxn t ok s).inputs = s.inputs := by
  rfl

/-! ### retire -/

@[simp] theorem retire_pirom (s : State) : (retire s).pirom = s.pirom := by
  unfold retire; split <;> (try split) <;> (try split) <;> rfl
@[simp] theorem retire_scratch (s : State) : (retire s).scratch = s.scratch := by
  unfold retire; split <;> (try split) <;> (try split) <;> rfl
@[simp] theorem retire_sensor (s : State) : (retire s).sensor = s.sensor := by
  unfold retire; split <;> (try split) <;> (try split) <;> rfl
@[simp] theorem retire_thermal (s : State) : (retire s).thermal = s.thermal := by
  unfold retire; split <;> (try split) <;> (try split) <;> rfl
@[simp] theorem retire_platform (s : State) : (retire s).platform = s.platform := by
  unfold retire; split <;> (try split) <;> (try split) <;> rfl
@[simp] theorem retire_answer (s : State) : (retire s).answer = s.answer := by
  unfold retire; split <;> (try split) <;> (try split) <;> rfl
@[simp] theorem retire_special (s : State) : (retire s).special = s.special := by
  unfold retire; split <;> (try split) <;> (try split) <;> rfl
@[simp] theorem retire_inputs (s : State) : (retire s).inputs = s.inputs := by
  unfold retire; split <;> (try split) <;> (try split) <;> rfl

/-! ### issueStep -/

/-- When a barrier may be issued (R669). -/
theorem barrierOk_iff (b : Bus) (earlier : List OutReq) (q : OutReq) :
    barrierOk b earlier q = true ↔ (q.barrier = true → ∀ w ∈ earlier ++ b.ownRequests, w.purpose ≠ .writeback) := by
  cases h : q.barrier <;> simp [barrierOk, h, or_imp, forall_and]

/-- Everything the request phase of this agent can do in a clock: nothing, clock b of the request under way, or clock a of the
request the environment names, if it may be issued (R622, R660, R669). -/
theorem issueStep_cases (q : Pins) (s : State) :
    issueStep q s = s ∨
    (∃ wb, s.bus.nextB = some wb ∧
      issueStep q s = { s with bus := { s.bus with nextB := none, out := requestPins s.bus.out false wb } }) ∨
    ∃ (r : OutReq) (tid : BitVec 5) (n : Nat), s.bus.nextB = none ∧ s.bus.outQ[q.pick]? = some r ∧
      mayIssue q s.bus = true ∧ barrierOk s.bus (s.bus.outQ.take q.pick) r = true ∧
      (r.den = true → freeTid s.bus = some tid) ∧
      issueStep q s =
        { s with bus := startRequest s.platform.cells s.bus r (s.bus.outQ.eraseIdx q.pick) tid, free := n } := by
  unfold issueStep
  split
  · exact .inr (.inl ⟨_, ‹_›, rfl⟩)
  · split
    · exact .inl rfl
    · split
      · rename_i r hr hc
        rw [Bool.and_eq_true] at hc
        split
        · split
          · exact .inr (.inr ⟨r, _, s.free, ‹_›, hr, hc.1, hc.2, fun _ => ‹_›, rfl⟩)
          · exact .inl rfl
        · exact .inr (.inr ⟨r, _, _, ‹_›, hr, hc.1, hc.2, fun h => absurd h ‹_›, rfl⟩)
      · exact .inl rfl

@[simp] theorem issueStep_pirom (q : Pins) (s : State) : (issueStep q s).pirom = s.pirom := by
  rcases issueStep_cases q s with h | ⟨_, _, h⟩ | ⟨_, _, _, _, _, _, _, _, h⟩ <;> rw [h]
@[simp] theorem issueStep_scratch (q : Pins) (s : State) : (issueStep q s).scratch = s.scratch := by
  rcases issueStep_cases q s with h | ⟨_, _, h⟩ | ⟨_, _, _, _, _, _, _, _, h⟩ <;> rw [h]
@[simp] theorem issueStep_sensor (q : Pins) (s : State) : (issueStep q s).sensor = s.sensor := by
  rcases issueStep_cases q s with h | ⟨_, _, h⟩ | ⟨_, _, _, _, _, _, _, _, h⟩ <;> rw [h]
@[simp] theorem issueStep_thermal (q : Pins) (s : State) : (issueStep q s).thermal = s.thermal := by
  rcases issueStep_cases q s with h | ⟨_, _, h⟩ | ⟨_, _, _, _, _, _, _, _, h⟩ <;> rw [h]
@[simp] theorem issueStep_platform (q : Pins) (s : State) : (issueStep q s).platform = s.platform := by
  rcases issueStep_cases q s with h | ⟨_, _, h⟩ | ⟨_, _, _, _, _, _, _, _, h⟩ <;> rw [h]
@[simp] theorem issueStep_answer (q : Pins) (s : State) : (issueStep q s).answer = s.answer := by
  rcases issueStep_cases q s with h | ⟨_, _, h⟩ | ⟨_, _, _, _, _, _, _, _, h⟩ <;> rw [h]
@[simp] theorem issueStep_special (q : Pins) (s : State) : (issueStep q s).special = s.special := by
  rcases issueStep_cases q s with h | ⟨_, _, h⟩ | ⟨_, _, _, _, _, _, _, _, h⟩ <;> rw [h]
@[simp] theorem issueStep_inputs (q : Pins) (s : State) : (issueStep q s).inputs = s.inputs := by
  rcases issueStep_cases q s with h | ⟨_, _, h⟩ | ⟨_, _, _, _, _, _, _, _, h⟩ <;> rw [h]
@[simp] theorem issueStep_core (q : Pins) (s : State) : (issueStep q s).core = s.core := by
  rcases issueStep_cases q s with h | ⟨_, _, h⟩ | ⟨_, _, _, _, _, _, _, _, h⟩ <;> rw [h]
@[simp] theorem issueStep_mem (q : Pins) (s : State) : (issueStep q s).mem = s.mem := by
  rcases issueStep_cases q s with h | ⟨_, _, h⟩ | ⟨_, _, _, _, _, _, _, _, h⟩ <;> rw [h]

@[simp] theorem clockPhases_pirom (q : Pins) (berr : Bool) (s : State) : (clockPhases q berr s).pirom = s.pirom := by
  simp [clockPhases]

@[simp] theorem clockPrologue_pirom (p : Pins) (s : State) : (clockPrologue p s).pirom = s.pirom := by
  simp [clockPrologue]

@[simp] theorem binitClock_pirom (q : Pins) (s : State) : (binitClock q s).pirom = s.pirom := by
  simp [binitClock]

@[simp] theorem clockPhases_scratch (q : Pins) (berr : Bool) (s : State) : (clockPhases q berr s).scratch = s.scratch := by
  simp [clockPhases]

@[simp] theorem clockPrologue_scratch (p : Pins) (s : State) : (clockPrologue p s).scratch = s.scratch := by
  simp [clockPrologue]

@[simp] theorem binitClock_scratch (q : Pins) (s : State) : (binitClock q s).scratch = s.scratch := by
  simp [binitClock]

@[simp] theorem clockPhases_sensor (q : Pins) (berr : Bool) (s : State) : (clockPhases q berr s).sensor = s.sensor := by
  simp [clockPhases]

@[simp] theorem clockPrologue_sensor (p : Pins) (s : State) : (clockPrologue p s).sensor = s.sensor := by
  simp [clockPrologue]

@[simp] theorem binitClock_sensor (q : Pins) (s : State) : (binitClock q s).sensor = s.sensor := by
  simp [binitClock]

@[simp] theorem clockPhases_thermal (q : Pins) (berr : Bool) (s : State) : (clockPhases q berr s).thermal = s.thermal := by
  simp [clockPhases]

@[simp] theorem clockPrologue_thermal (p : Pins) (s : State) : (clockPrologue p s).thermal = s.thermal := by
  simp [clockPrologue]

@[simp] theorem binitClock_thermal (q : Pins) (s : State) : (binitClock q s).thermal = s.thermal := by
  simp [binitClock]

@[simp] theorem clockPhases_platform (q : Pins) (berr : Bool) (s : State) : (clockPhases q berr s).platform = s.platform := by
  simp [clockPhases]

@[simp] theorem clockPrologue_platform (p : Pins) (s : State) : (clockPrologue p s).platform = s.platform := by
  simp [clockPrologue]

@[simp] theorem binitClock_platform (q : Pins) (s : State) : (binitClock q s).platform = s.platform := by
  simp [binitClock]

@[simp] theorem clockPhases_answer (q : Pins) (berr : Bool) (s : State) : (clockPhases q berr s).answer = s.answer := by
  simp [clockPhases]

@[simp] theorem clockPrologue_answer (p : Pins) (s : State) : (clockPrologue p s).answer = s.answer := by
  simp [clockPrologue]

@[simp] theorem binitClock_answer (q : Pins) (s : State) : (binitClock q s).answer = s.answer := by
  simp [binitClock]

@[simp] theorem clockPhases_special (q : Pins) (berr : Bool) (s : State) : (clockPhases q berr s).special = s.special := by
  simp [clockPhases]

@[simp] theorem clockPrologue_special (p : Pins) (s : State) : (clockPrologue p s).special = s.special := by
  simp [clockPrologue]

@[simp] theorem binitClock_special (q : Pins) (s : State) : (binitClock q s).special = s.special := by
  simp [binitClock]

@[simp] theorem clockPhases_inputs (q : Pins) (berr : Bool) (s : State) : (clockPhases q berr s).inputs = s.inputs := by
  simp [clockPhases]

@[simp] theorem clockPrologue_inputs (p : Pins) (s : State) : (clockPrologue p s).inputs = s.inputs := by
  simp [clockPrologue]

@[simp] theorem binitClock_inputs (q : Pins) (s : State) : (binitClock q s).inputs = s.inputs := by
  simp [binitClock]

end Sys2Proof.Machine
end

