-- ==== Sys2Proof/Laws/Encoding.lean ====
section
/-! SUPPORT. What the parts of decoding do to what the parts of encoding write: address bytes, packet shapes, the fields
of clock b, the row of each pattern of request bits. -/

namespace Sys2Proof

/-! ### SMBus packets -/

theorem byteAddress_addressByte (a : SmbAddr) (rw : BitVec 1) : byteAddress (addressByte a rw) = a := by
  unfold byteAddress addressByte
  grind

theorem addressByte_read (a : SmbAddr) : (addressByte a 1).getLsbD 0 = true := by
  revert a
  decide

theorem addressByte_write (a : SmbAddr) : (addressByte a 0).getLsbD 0 = false := by
  revert a
  decide

theorem parseAcks_encode (n : Nat) : parseAcks (List.replicate n .ack ++ [.nack, .stop]) = some n := by
  induction n with
  | zero => rfl
  | succ n ih => simp [List.replicate_succ, parseAcks, ih]

theorem parseBytes_encode (l : List Byte) : parseBytes (l.map .byte ++ [.stop]) = some l := by
  induction l with
  | nil => rfl
  | cons b l ih => simp [parseBytes, ih]

theorem parsePacket_read (a : SmbAddr) (n : Nat) : parsePacket (packetRead a n) = some (.read a n) := by
  unfold packetRead parsePacket
  simp only [addressByte_read, byteAddress_addressByte, parseAcks_encode, if_true]
  rfl

theorem parsePacket_writeRead (a : SmbAddr) (d : Byte) (n : Nat) :
    parsePacket (packetWriteRead a d n) = some (.writeRead a d n) := by
  have h : (List.replicate n HostItem.ack ++ [.nack, .stop]) ≠ [.stop] := by
    cases n <;> simp [List.replicate_succ]
  unfold packetWriteRead packetRead parsePacket
  simp only [addressByte_write, byteAddress_addressByte, Bool.false_eq_true, if_false, parseReread, if_true, h,
    parseAcks_encode]
  rfl

theorem parsePacket_write (a : SmbAddr) (l : List Byte) : parsePacket (packetWrite a l) = some (.write a l) := by
  have h := parseBytes_encode l
  unfold packetWrite parsePacket
  simp only [addressByte_write, byteAddress_addressByte, Bool.false_eq_true, if_false]
  match l with
  | [] => rfl
  | [_] => rfl
  | _ :: _ :: _ =>
    simp only [List.map_cons, List.cons_append] at h ⊢
    rw [h]
    rfl

theorem addressSel_memoryAddress (sel : EeSel) : addressSel (memoryAddress sel) = sel := by
  obtain ⟨sma, p⟩ := sel
  revert sma p
  decide

theorem isMemoryAddress_memoryAddress (sel : EeSel) : isMemoryAddress (memoryAddress sel) = true := by
  obtain ⟨sma, p⟩ := sel
  revert sma p
  decide

theorem isReservedAddress_memoryAddress (sel : EeSel) : isReservedAddress (memoryAddress sel) = false := by
  obtain ⟨sma, p⟩ := sel
  revert sma p
  decide

/-! ### Bus requests -/

theorem clockB_clockBPins (b : ClockB) : clockB (clockBPins b) = b := by
  cases b
  simp only [clockB, clockBPins, ClockB.mk.injEq]
  refine ⟨?_, ?_, ?_, ?_, ?_, ?_, ?_, ?_⟩ <;> grind

theorem clockBPins_clockB (p : AddrPins) : clockBPins (clockB p) = p := by
  simp only [clockB, clockBPins]
  grind

theorem requestBits_split (w : BitVec 12) : (w.extractLsb' 6 6 ++ w.extractLsb' 0 6 : BitVec 12) = w := by grind

/-- A row the source keeps is found whatever the lost cells are. -/
theorem rowOf_fixed {c : OpenCells} {w : BitVec 12} {x : RowBits} (h : (fixedRows.find? fun b => b.hits w) = some x) :
    rowOf c w = some x.row := by
  unfold rowOf busRows
  rw [List.find?_append, h]
  rfl

theorem RowBits.not_hits_of_disjoint {x y : RowBits} {w : BitVec 12} (h : x.disjoint y = true) (hy : y.hits w = true) :
    x.hits w = false := by
  simp only [RowBits.disjoint, bne_iff_ne, ne_eq, RowBits.hits, beq_iff_eq] at h hy
  apply Bool.eq_false_iff.mpr
  simp only [RowBits.hits, ne_eq, beq_iff_eq]
  intro hx
  apply h
  rw [← hx, ← hy]
  ext i
  simp only [BitVec.getElem_and]
  cases w[i] <;> cases x.mask[i] <;> cases y.mask[i] <;> rfl

theorem find_of_disjoint {l : List RowBits} {x : RowBits} {w : BitVec 12} (hl : rowsDisjoint l = true) (hx : x ∈ l)
    (hw : x.hits w = true) : (l.find? fun b => b.hits w) = some x := by
  induction l with
  | nil => cases hx
  | cons y rest ih =>
    simp only [rowsDisjoint, Bool.and_eq_true, List.all_eq_true] at hl
    rcases List.mem_cons.mp hx with rfl | hr
    · simp [hw]
    · rw [List.find?_cons, RowBits.not_hits_of_disjoint (hl.1 x hr) hw]
      exact ih hl.2 hr

/-- Under a legal reading of the lost cells the row a word matches is the row it is found to have. -/
theorem rowOf_of_legal {c : OpenCells} {w : BitVec 12} {x : RowBits} (hc : c.legal = true) (hx : x ∈ busRows c)
    (hw : x.hits w = true) : rowOf c w = some x.row := by
  unfold rowOf
  rw [find_of_disjoint hc hx hw]
  rfl

theorem rowOf_memRead (c : OpenCells) (z d : BitVec 2) (dc : BitVec 1) (l : BitVec 3) :
    rowOf c (0b0#1 ++ z ++ 0b1#1 ++ dc ++ 0b0#1 ++ 0b0#1 ++ d ++ l) = some .memRead :=
  rowOf_fixed (x := ⟨.memRead, 0x960, 0x100⟩) (by revert z d dc l; decide +kernel)

theorem rowOf_memWrite (c : OpenCells) (z d : BitVec 2) (ws : BitVec 1) (l : BitVec 3) :
    rowOf c (0b0#1 ++ z ++ 0b1#1 ++ ws ++ 0b1#1 ++ 0b0#1 ++ d ++ l) = some .memWrite :=
  rowOf_fixed (x := ⟨.memWrite, 0x960, 0x140⟩) (by revert z d ws l; decide +kernel)

theorem rowOf_memReadInvalidate (c : OpenCells) (z d : BitVec 2) (l : BitVec 3) :
    rowOf c (0b0#1 ++ z ++ 0b010#3 ++ 0b0#1 ++ d ++ l) = some .memReadInvalidate :=
  rowOf_fixed (x := ⟨.memReadInvalidate, 0x9E0, 0x080⟩) (by revert z d l; decide +kernel)

theorem rowOf_reserved0Asz011 (c : OpenCells) (z d : BitVec 2) (l : BitVec 3) :
    rowOf c (0b0#1 ++ z ++ 0b011#3 ++ 0b0#1 ++ d ++ l) = some .reserved0Asz011 :=
  rowOf_fixed (x := ⟨.reserved0Asz011, 0x9E0, 0x0C0⟩) (by revert z d l; decide +kernel)

/-- The spec's default reading of the lost cells gives every request word one meaning at most. -/
theorem default_cells_legal : OpenCells.default.legal = true := by decide

end Sys2Proof
end

