-- ==== Sys2Proof/Laws/Memory.lean ====
section
/-! SUPPORT. Physical memory: a read after a write, and the canonical form, which every memory operation keeps. -/

namespace Sys2Proof.Machine

theorem Memory.wfFrom_mono {m : Memory} {a b : Nat} (h : a ≤ b) (hb : Memory.wfFrom b m = true) :
    Memory.wfFrom a m = true := by
  cases m with
  | nil => rfl
  | cons p rest =>
    simp only [Memory.wfFrom, Bool.and_eq_true, decide_eq_true_eq] at hb ⊢
    exact ⟨⟨le_trans h hb.1.1, hb.1.2⟩, hb.2⟩

/-- Below its first address a memory reads as unlisted. -/
theorem Memory.read_below {m : Memory} {low a : Nat} (h : Memory.wfFrom low m = true) (ha : a < low) :
    Memory.read m a = Memory.unlisted := by
  induction m generalizing low with
  | nil => rfl
  | cons p rest ih =>
    simp only [Memory.wfFrom, Bool.and_eq_true, decide_eq_true_eq] at h
    have hne : p.1 ≠ a := by omega
    simp only [Memory.read, hne, if_false]
    exact ih h.2 (by omega)

theorem Memory.wfFrom_write {m : Memory} {low a : Nat} {b : Byte} (h : Memory.wfFrom low m = true) (ha : low ≤ a) :
    Memory.wfFrom low (Memory.write m a b) = true := by
  induction m generalizing low with
  | nil =>
    by_cases hb : b = Memory.unlisted
    · simp [Memory.write, hb, Memory.wfFrom]
    · simp [Memory.write, hb, Memory.wfFrom, ha]
  | cons p rest ih =>
    have h0 := h
    simp only [Memory.wfFrom, Bool.and_eq_true, decide_eq_true_eq] at h
    unfold Memory.write
    split
    · split
      · exact h0
      · rename_i hlt hb
        simp only [Memory.wfFrom, Bool.and_eq_true, decide_eq_true_eq]
        exact ⟨⟨ha, by simpa using hb⟩, ⟨by omega, h.1.2⟩, h.2⟩
    · split
      · rename_i heq
        subst heq
        split
        · exact Memory.wfFrom_mono (by omega) h.2
        · rename_i hb
          simp only [Memory.wfFrom, Bool.and_eq_true, decide_eq_true_eq]
          exact ⟨⟨ha, by simpa using hb⟩, h.2⟩
      · simp only [Memory.wfFrom, Bool.and_eq_true, decide_eq_true_eq]
        exact ⟨h.1, ih h.2 (by omega)⟩

/-- A write keeps the canonical form. -/
theorem Memory.wf_write {m : Memory} (h : m.wf = true) (a : Nat) (b : Byte) : (m.write a b).wf = true :=
  Memory.wfFrom_write h (Nat.zero_le a)

/-- So do several. -/
theorem Memory.wf_writeAll (cells : List Host.Cell) {m : Memory} (h : m.wf = true) : (m.writeAll cells).wf = true := by
  induction cells generalizing m with
  | nil => exact h
  | cons c rest ih => exact ih (Memory.wf_write h c.1 c.2)

/-- A read after a write to the same address gives the byte written. -/
theorem Memory.read_write_same {m : Memory} (h : m.wf = true) (a : Nat) (b : Byte) : (m.write a b).read a = b := by
  suffices ∀ low, Memory.wfFrom low m = true → (m.write a b).read a = b from this 0 h
  clear h
  intro low h
  induction m generalizing low with
  | nil =>
    by_cases hb : b = Memory.unlisted
    · simp [Memory.write, hb, Memory.read]
    · simp [Memory.write, hb, Memory.read]
  | cons p rest ih =>
    have h0 := h
    simp only [Memory.wfFrom, Bool.and_eq_true, decide_eq_true_eq] at h
    unfold Memory.write
    split
    · split
      · rename_i hlt hb
        have hne : p.1 ≠ a := by omega
        simp only [Memory.read, hne, if_false, hb]
        exact Memory.read_below h.2 (by omega)
      · simp [Memory.read]
    · split
      · rename_i heq
        split
        · rename_i hb
          rw [hb]
          exact Memory.read_below h.2 (by omega)
        · simp [Memory.read]
      · rename_i h1 h2
        have hne : p.1 ≠ a := fun e => h2 e.symm
        simp only [Memory.read, hne, if_false]
        exact ih _ h.2

/-- A write leaves every other address alone. -/
theorem Memory.read_write_other {m : Memory} {a c : Nat} (hne : c ≠ a) (b : Byte) :
    (m.write a b).read c = m.read c := by
  induction m with
  | nil =>
    by_cases hb : b = Memory.unlisted
    · simp [Memory.write, hb]
    · simp [Memory.write, hb, Memory.read, Ne.symm hne]
  | cons p rest ih =>
    unfold Memory.write
    split
    · split
      · rfl
      · simp [Memory.read, Ne.symm hne]
    · split
      · rename_i h1 heq
        have hp : p.1 ≠ c := fun e => hne (e.symm.trans heq.symm)
        split
        · simp [Memory.read, hp]
        · simp [Memory.read, hp, Ne.symm hne]
      · simp only [Memory.read]
        split
        · rfl
        · exact ih

/-- Writes leave every address they do not name alone. -/
theorem Memory.read_writeAll_other (cells : List Host.Cell) {m : Memory} {c : Nat} (h : ∀ p ∈ cells, p.1 ≠ c) :
    (m.writeAll cells).read c = m.read c := by
  induction cells generalizing m with
  | nil => rfl
  | cons p rest ih =>
    rw [Memory.writeAll, ih (fun q hq => h q (List.mem_cons_of_mem _ hq)),
      Memory.read_write_other (Ne.symm (h p List.mem_cons_self))]

/-- The last write to an address is the one that is read. -/
theorem Memory.read_writeAll_mem (cells : List Host.Cell) {m : Memory} (hm : m.wf = true) {a : Nat} {b : Byte}
    (hnd : (cells.map Prod.fst).Nodup) (h : (a, b) ∈ cells) : (m.writeAll cells).read a = b := by
  induction cells generalizing m with
  | nil => simp at h
  | cons p rest ih =>
    simp only [List.map_cons, List.nodup_cons] at hnd
    rcases List.mem_cons.mp h with h | h
    · subst h
      rw [Memory.writeAll, Memory.read_writeAll_other rest, Memory.read_write_same hm]
      intro q hq e
      exact hnd.1 (List.mem_map.mpr ⟨q, hq, e⟩)
    · exact ih (Memory.wf_write hm _ _) hnd.2 h

/-- A completed transaction keeps the canonical form of memory. -/
theorem memoryAfter_wf (t : Txn) (ig : Bool) {m : Memory} (h : m.wf = true) : (memoryAfter t ig m).wf = true := by
  unfold memoryAfter
  simp only
  split <;> split <;> simp only [Memory.wf_writeAll, h]

end Sys2Proof.Machine
end

