-- ==== Sys2Proof/Laws/Smbus.lean ====
section
/-! SUPPORT. What each shared operation of the SMBus devices can do: the memories' counters and bytes, the packets'
frames. -/

namespace Sys2Proof.Machine

/-! ### The memories -/

/-- A read of `n` bytes changes only the counter. -/
theorem Eeprom.readN_snd (n : Nat) (e : Eeprom) :
    (Eeprom.readN n e).2 = { e with counter := e.counter + BitVec.ofNat 7 n } := by
  induction n generalizing e with
  | zero => simp [Eeprom.readN]
  | succ n ih =>
    simp only [Eeprom.readN, ih, Eeprom.advance, nextRead]
    congr 1
    rw [BitVec.add_assoc]
    congr 1
    apply BitVec.eq_of_toNat_eq
    simp [BitVec.toNat_add, Nat.add_comm]

/-- A read returns the bytes from the counter on, modulo 128. -/
theorem Eeprom.readN_fst (n : Nat) (e : Eeprom) :
    (Eeprom.readN n e).1 = (List.range n).map fun k => .data (e.byteAt (e.counter + BitVec.ofNat 7 k)) := by
  induction n generalizing e with
  | zero => rfl
  | succ n ih =>
    simp only [Eeprom.readN, ih, List.range_succ_eq_map, List.map_cons, List.map_map]
    congr 1
    · simp
    · apply List.map_congr_left
      intro k _
      have : e.advance.counter + BitVec.ofNat 7 k = e.counter + BitVec.ofNat 7 (k + 1) := by
        rw [Eeprom.advance_counter, nextRead, BitVec.add_assoc]
        congr 1
        apply BitVec.eq_of_toNat_eq
        simp [BitVec.toNat_add, Nat.add_comm]
      simp only [Function.comp, this]
      rfl

/-- A byte of a memory after one store. -/
theorem Eeprom.store_byteAt (e : Eeprom) (d : Byte) (a : BitVec 7) :
    (e.store d).byteAt a = if a = e.counter then d else e.byteAt a := by
  unfold Eeprom.byteAt Eeprom.store
  by_cases h : a = e.counter
  · subst h; simp
  · simp only [h, if_false]
    apply Vector.getElem_set_ne
    intro e2
    exact h (BitVec.eq_of_toNat_eq e2.symm)

/-- The counter after a page write of one byte or more (R412, R419). -/
theorem Eeprom.storeAll_counter (data : List Byte) (e : Eeprom) :
    (Eeprom.storeAll data e).counter =
      (if data = [] then e.counter
       else (e.counter &&& 0x78) ||| ((e.counter + BitVec.ofNat 7 data.length) &&& 0x07)) := by
  have page : ∀ c : BitVec 7, ((c &&& 0x78) ||| ((c + 1) &&& 0x07)) &&& 0x78 = c &&& 0x78 := by decide
  have offset : ∀ c : BitVec 7, (((c &&& 0x78) ||| ((c + 1) &&& 0x07)) &&& 0x07) = (c + 1) &&& 0x07 := by decide
  have mask : ∀ x : BitVec 7, (x &&& 0x07).toNat = x.toNat % 8 := by decide
  have low : ∀ x y n : BitVec 7, x &&& 0x07 = y &&& 0x07 → (x + n) &&& 0x07 = (y + n) &&& 0x07 := by
    intro x y n h
    have h2 := congrArg BitVec.toNat h
    apply BitVec.eq_of_toNat_eq
    rw [mask, mask] at h2
    rw [mask, mask, BitVec.toNat_add, BitVec.toNat_add]
    omega
  have wrap : ∀ c n : BitVec 7,
      (((c &&& 0x78) ||| ((c + 1) &&& 0x07)) &&& 0x78) ||| ((((c &&& 0x78) ||| ((c + 1) &&& 0x07)) + n) &&& 0x07) =
        (c &&& 0x78) ||| ((c + (n + 1)) &&& 0x07) := by
    intro c n
    rw [page, low _ _ n (offset c), BitVec.add_assoc, BitVec.add_comm 1 n]
  induction data generalizing e with
  | nil => rfl
  | cons d rest ih =>
    rw [Eeprom.storeAll, ih]
    simp only [Eeprom.store, nextWrite, List.length_cons, reduceCtorEq, if_false]
    split
    · rename_i h
      rw [h]
      rfl
    · rw [wrap, BitVec.ofNat_add]
      rfl

/-- A byte of a memory after a page write: the last byte of the packet that was stored at its offset, if there is one
(R419). -/
theorem Eeprom.storeAll_byteAt (data : List Byte) (e : Eeprom) (a : BitVec 7) :
    (Eeprom.storeAll data e).byteAt a =
      match ((List.range data.length).filter fun k =>
          ((e.counter &&& 0x78) ||| ((e.counter + BitVec.ofNat 7 k) &&& 0x07)) == a).getLast? with
      | none => e.byteAt a
      | some k => data.getD k 0 := by
  have snoc : ∀ (l : List Byte) (d : Byte) (e : Eeprom), Eeprom.storeAll (l ++ [d]) e = (Eeprom.storeAll l e).store d := by
    intro l d
    induction l with
    | nil => intro e; rfl
    | cons x l ih => intro e; exact ih _
  have zero : ∀ o : BitVec 7, (o &&& 0x78) ||| ((o + 0) &&& 0x07) = o := by decide
  induction data using List.reverseRecOn generalizing e with
  | nil => rfl
  | append_singleton l d ih =>
    have hc : (if l = [] then e.counter
        else (e.counter &&& 0x78) ||| ((e.counter + BitVec.ofNat 7 l.length) &&& 0x07)) =
          (e.counter &&& 0x78) ||| ((e.counter + BitVec.ofNat 7 l.length) &&& 0x07) := by
      split
      · rename_i h
        rw [h]
        exact (zero _).symm
      · rfl
    rw [snoc, Eeprom.store_byteAt, ih e, Eeprom.storeAll_counter, hc]
    simp only [List.length_append, List.length_singleton, List.range_succ, List.filter_append, List.filter_cons,
      List.filter_nil]
    by_cases h : a = (e.counter &&& 0x78) ||| ((e.counter + BitVec.ofNat 7 l.length) &&& 0x07)
    · subst h
      simp
    · have h2 : (((e.counter &&& 0x78) ||| ((e.counter + BitVec.ofNat 7 l.length) &&& 0x07)) == a) = false := by
        simpa using Ne.symm h
      simp only [h, if_false, h2, Bool.false_eq_true, List.append_nil]
      split
      · rfl
      · rename_i k hk
        have hlt : k ∈ List.range l.length := List.mem_of_mem_filter (List.mem_of_getLast? hk)
        rw [List.mem_range] at hlt
        simp [List.getD, List.getElem?_append_left hlt]

/-- The packets to the memories change nothing but the memories and the answer. -/
theorem memoryRead_frame (s : State) (sel : EeSel) (da : Option Byte) (n : Nat) :
    OnlyMemories s (memoryRead s sel da n) := by
  unfold memoryRead
  split
  · cases sel.pirom <;> rfl
  · rfl

theorem protectedWrite_frame (s : State) (sel : EeSel) (da : Byte) (n : Nat) (acked : Bool) :
    OnlyMemories s (protectedWrite s sel da n acked) := by
  unfold protectedWrite
  split
  · cases sel.pirom <;> rfl
  · rfl

theorem scratchWrite_frame (s : State) (sma : BitVec 2) (da : Byte) (data : List Byte) :
    OnlyMemories s (scratchWrite s sma da data) := by
  unfold scratchWrite
  split
  · exact protectedWrite_frame ..
  · split <;> rfl

/-- A read changes no byte of a memory. -/
theorem memoryRead_mem (s : State) (sel : EeSel) (da : Option Byte) (n : Nat) :
    (memoryRead s sel da n).pirom.mem = s.pirom.mem ∧ (memoryRead s sel da n).scratch.mem = s.scratch.mem := by
  unfold memoryRead
  split
  · cases h : sel.pirom <;> cases da <;> simp [Eeprom.readN_snd, State.eeprom, Eeprom.load]
  · exact ⟨rfl, rfl⟩

/-- An attempt to write a protected memory changes no byte of either. -/
theorem protectedWrite_mem (s : State) (sel : EeSel) (da : Byte) (n : Nat) (acked : Bool) :
    (protectedWrite s sel da n acked).pirom.mem = s.pirom.mem ∧
      (protectedWrite s sel da n acked).scratch.mem = s.scratch.mem := by
  unfold protectedWrite
  split
  · cases h : sel.pirom <;> simp [State.eeprom, Eeprom.protectedWrite]
  · exact ⟨rfl, rfl⟩

/-- A write to the scratch EEPROM changes no byte of the PIROM, and with SMWP high none at all. -/
theorem scratchWrite_mem (s : State) (sma : BitVec 2) (da : Byte) (data : List Byte) :
    (scratchWrite s sma da data).pirom.mem = s.pirom.mem ∧
      (s.platform.smwp = true → (scratchWrite s sma da data).scratch.mem = s.scratch.mem) := by
  unfold scratchWrite
  split
  · exact ⟨(protectedWrite_mem ..).1, fun _ => (protectedWrite_mem ..).2⟩
  · rename_i h
    exact ⟨by split <;> rfl, fun h2 => absurd h2 h⟩

/-! ### The sensor -/

theorem sensorRead_frame (s : State) (t : SmbAddr) (c : Byte) : OnlySensor s (sensorRead s t c) := by
  unfold sensorRead
  split <;> rfl

theorem sensorWrite_frame (s : State) (t : SmbAddr) (c : Byte) (x : Sensor) : OnlySensor s (sensorWrite s t c x) := by
  unfold sensorWrite
  split <;> rfl

/-- `unlessMalformed` goes on only where no rule is broken. -/
theorem unlessMalformed_next {m : Option Malformed} {s t : State} (h : unlessMalformed m s = .next t) :
    m = none ∧ t = s := by
  cases m with
  | none => simp [unlessMalformed] at h; exact ⟨rfl, h.symm⟩
  | some x => simp [unlessMalformed] at h

@[simp] theorem unlessMalformed_none (s : State) : unlessMalformed none s = .next s := rfl

/-! ### Every packet -/

theorem OnlyMemories.smbus {s t : State} (h : OnlyMemories s t) : OnlySmbus s t := by
  unfold OnlyMemories at h
  unfold OnlySmbus
  rw [h]

theorem OnlySensor.smbus {s t : State} (h : OnlySensor s t) : OnlySmbus s t := by
  unfold OnlySensor at h
  unfold OnlySmbus
  rw [h]

/-- An instruction that travels as a packet reaches nothing but the SMBus devices. -/
theorem exec_packet_frame {c : OpenCells} {i : Instr} {items : List HostItem} (hi : encode c i = .packet items) {s t : State}
    (h : exec i s = .next t) : OnlySmbus s t := by
  cases i <;> simp only [encode, encodeRequest, reduceCtorEq] at hi
  case eeCurrentAddressRead => cases h; exact (memoryRead_frame ..).smbus
  case eeRandomRead => cases h; exact (memoryRead_frame ..).smbus
  case eeSequentialRead => cases h; exact (memoryRead_frame ..).smbus
  case eeByteWrite => cases h; exact (scratchWrite_frame ..).smbus
  case eePageWrite => cases h; exact (scratchWrite_frame ..).smbus
  case eeWriteToPirom => cases h; exact (protectedWrite_frame ..).smbus
  case eeWriteProtected => cases h; exact (protectedWrite_frame ..).smbus
  case rrt => cases h; exact (sensorRead_frame ..).smbus
  case rs => cases h; exact (sensorRead_frame ..).smbus
  case rc => cases h; exact (sensorRead_frame ..).smbus
  case rcr => cases h; exact (sensorRead_frame ..).smbus
  case rrhl => cases h; exact (sensorRead_frame ..).smbus
  case rrll => cases h; exact (sensorRead_frame ..).smbus
  case wc => rw [(unlessMalformed_next h).2]; exact (sensorWrite_frame ..).smbus
  case wcr => rw [(unlessMalformed_next h).2]; exact (sensorWrite_frame ..).smbus
  case wrhl => cases h; exact (sensorWrite_frame ..).smbus
  case wrll => cases h; exact (sensorWrite_frame ..).smbus
  case osht => cases h; split <;> rfl
  case ara => cases h; split <;> (try split) <;> rfl
  case receiveByte => cases h; split <;> (try split) <;> rfl
  case sensorReservedCommand =>
    simp only [exec, execSensorReservedCommand] at h
    split at h
    · cases h
    · cases h; rfl

/-- It changes no byte of the PIROM, and none of the scratch EEPROM while SMWP is high. -/
theorem exec_packet_mem {c : OpenCells} {i : Instr} {items : List HostItem} (hi : encode c i = .packet items) {s t : State}
    (h : exec i s = .next t) :
    t.pirom.mem = s.pirom.mem ∧ (s.platform.smwp = true → t.scratch.mem = s.scratch.mem) := by
  have keep : ∀ {x y : State}, OnlySensor x y → y.pirom.mem = x.pirom.mem ∧
      (x.platform.smwp = true → y.scratch.mem = x.scratch.mem) := by
    intro x y hx
    rw [hx]
    exact ⟨rfl, fun _ => rfl⟩
  cases i <;> simp only [encode, encodeRequest, reduceCtorEq] at hi
  case eeCurrentAddressRead => cases h; exact ⟨(memoryRead_mem ..).1, fun _ => (memoryRead_mem ..).2⟩
  case eeRandomRead => cases h; exact ⟨(memoryRead_mem ..).1, fun _ => (memoryRead_mem ..).2⟩
  case eeSequentialRead => cases h; exact ⟨(memoryRead_mem ..).1, fun _ => (memoryRead_mem ..).2⟩
  case eeByteWrite => cases h; exact scratchWrite_mem ..
  case eePageWrite => cases h; exact scratchWrite_mem ..
  case eeWriteToPirom => cases h; exact ⟨(protectedWrite_mem ..).1, fun _ => (protectedWrite_mem ..).2⟩
  case eeWriteProtected => cases h; exact ⟨(protectedWrite_mem ..).1, fun _ => (protectedWrite_mem ..).2⟩
  case rrt => cases h; exact keep (sensorRead_frame ..)
  case rs => cases h; exact keep (sensorRead_frame ..)
  case rc => cases h; exact keep (sensorRead_frame ..)
  case rcr => cases h; exact keep (sensorRead_frame ..)
  case rrhl => cases h; exact keep (sensorRead_frame ..)
  case rrll => cases h; exact keep (sensorRead_frame ..)
  case wc => rw [(unlessMalformed_next h).2]; exact keep (sensorWrite_frame ..)
  case wcr => rw [(unlessMalformed_next h).2]; exact keep (sensorWrite_frame ..)
  case wrhl => cases h; exact keep (sensorWrite_frame ..)
  case wrll => cases h; exact keep (sensorWrite_frame ..)
  case osht => cases h; apply keep; split <;> rfl
  case ara => cases h; apply keep; split <;> (try split) <;> rfl
  case receiveByte => cases h; apply keep; split <;> (try split) <;> rfl
  case sensorReservedCommand =>
    simp only [exec, execSensorReservedCommand] at h
    split at h
    · cases h
    · cases h; exact ⟨rfl, fun _ => rfl⟩

end Sys2Proof.Machine
end

