-- ==== Sys2Proof/Laws/Frames.lean ====
section
/-! SUPPORT. What a decoded instruction of each family can change, what one step can be, what a line of the caches and the
thermal monitor are after an operation. -/

namespace Sys2Proof.Machine

/-! ### What decoding answers -/

theorem decodePacket_encode {smwp : Bool} {p : Packet} {i : Instr} (c : OpenCells) (h : decodePacket smwp p = .instr i) :
    ∃ items, encode c i = .packet items := by
  unfold decodePacket at h
  split at h
  · cases h
  · split at h
    · unfold decodeMemoryPacket at h
      split at h
      · cases h; exact ⟨_, rfl⟩
      · cases h; exact ⟨_, rfl⟩
      · cases h; exact ⟨_, rfl⟩
      · cases h; exact ⟨_, rfl⟩
      · cases h
      · unfold decodeMemoryWrite at h
        split at h
        · cases h
        · split at h
          · cases h; exact ⟨_, rfl⟩
          · split at h
            · cases h; exact ⟨_, rfl⟩
            · split at h <;> cases h <;> exact ⟨_, rfl⟩
      · cases h
    · split at h
      · unfold decodeAraPacket at h
        split at h <;> cases h
        exact ⟨_, rfl⟩
      · unfold decodeSensorPacket at h
        split at h
        · cases h; exact ⟨_, rfl⟩
        · cases h
        · unfold decodeSensorRead at h
          (repeat' split at h) <;> cases h <;> exact ⟨_, rfl⟩
        · cases h
        · cases h
        · unfold decodeSensorSend at h
          split at h <;> cases h <;> exact ⟨_, rfl⟩
        · unfold decodeSensorWrite at h
          (repeat' split at h) <;> cases h <;> exact ⟨_, rfl⟩
        · cases h
        · cases h

/-- A packet decodes to an instruction that travels as one. -/
theorem decode_packet_encode {c : OpenCells} {smwp : Bool} {items : List HostItem} {i : Instr}
    (h : decode c smwp (.packet items) = .instr i) : ∃ l, encode c i = .packet l := by
  unfold decode at h
  split at h
  · rename_i heq
    cases heq
    split at h
    · exact decodePacket_encode c h
    · unfold decodeBadPacket at h
      split at h <;> cases h
  · rename_i heq; cases heq
  · rename_i heq; cases heq
  · rename_i heq; cases heq

/-- A request decodes to an instruction that travels as one. -/
theorem decode_request_encode {c : OpenCells} {smwp : Bool} {a b : ClockWord} {i : Instr}
    (h : decode c smwp (.request a b) = .instr i) : ∃ r w, encode c i = encodeRequest r w := by
  change decodeRequest c a b = .instr i at h
  unfold decodeRequest at h
  simp only at h
  split at h <;> cases h <;> exact ⟨_, _, rfl⟩

/-- A special transaction's code is always some instruction that travels as one. -/
theorem decodeSpecial_encode (c : OpenCells) (r : Request) : encode c (decodeSpecial r) = .special r := by
  unfold decodeSpecial
  repeat' split
  all_goals rfl

/-! ### What each family can change -/

/-- What an observed request changes: the bus agent's queues, and of the core the waiting vectors. -/
structure RequestFrame (s t : State) : Prop where
  state : t = { s with bus := t.bus, core := { s.core with pending := t.core.pending }, special := t.special }
  bus : t.bus = { s.bus with ioq := t.bus.ioq, issuing := t.bus.issuing, deferred := t.bus.deferred,
                             tlbPurging := t.bus.tlbPurging }

theorem RequestFrame.append (s : State) (row : BusRow) (r : Request) (q : Bool) (len : BitVec 3) :
    RequestFrame s (s.append row r q len) := ⟨rfl, rfl⟩

/-- An observed request reaches the bus agent's queues, and of the core only the waiting vectors. -/
theorem exec_request_frame {c : OpenCells} {i : Instr} {r : Request} {w : BitVec 12} (hi : encode c i = encodeRequest r w) {s t : State}
    (h : exec i s = .next t) : RequestFrame s t := by
  unfold encodeRequest at hi
  cases i <;> simp only [encode, reduceCtorEq] at hi
  case eeSequentialRead sel st n => cases st <;> simp at hi
  case sensorReservedCommand a c f => cases f <;> simp at hi
  case deferredReply =>
    rw [(unlessMalformed_next h).2]
    unfold observeReply
    split
    · exact .append ..
    · exact ⟨rfl, rfl⟩
  case interruptAcknowledge => rw [(unlessMalformed_next h).2]; exact .append ..
  case special => rw [(unlessMalformed_next h).2]; exact ⟨rfl, rfl⟩
  case interrupt => rw [(unlessMalformed_next h).2]; exact ⟨rfl, rfl⟩
  case purgeTc => rw [(unlessMalformed_next h).2]; exact ⟨rfl, rfl⟩
  case ioRead => rw [(unlessMalformed_next h).2]; exact .append ..
  case ioWrite => rw [(unlessMalformed_next h).2]; exact .append ..
  case memReadInvalidate => rw [(unlessMalformed_next h).2]; exact .append ..
  case memRead => rw [(unlessMalformed_next h).2]; exact .append ..
  case memWrite => rw [(unlessMalformed_next h).2]; exact .append ..
  case memReadCurrent => rw [(unlessMalformed_next h).2]; exact .append ..
  case cacheLineReplacement => rw [(unlessMalformed_next h).2]; exact .append ..
  all_goals cases h

/-- A special transaction's code reaches only the queue. -/
theorem exec_special_frame {c : OpenCells} {i : Instr} {r : Request} (hi : encode c i = .special r) {s t : State}
    (h : exec i s = .next t) : t = { s with bus := { s.bus with ioq := t.bus.ioq } } := by
  cases i <;> simp only [encode, encodeRequest, reduceCtorEq] at hi
  case eeSequentialRead sel st n => cases st <;> simp at hi
  case sensorReservedCommand a c f => cases f <;> simp at hi
  all_goals first | (cases h; rfl) | cases h

/-- What a completed core instruction is made of. -/
theorem OnlyCore.stepped (s : State) (qs : List OutReq) (c : Core) (n : Nat) :
    OnlyCore s (((s.enqueue qs).setCore c).stepped.drew n) := rfl

theorem OnlyCore.issued (s : State) (qs : List OutReq) (c : Core) :
    OnlyCore s (((s.enqueue qs).setCore c).stepped) := rfl

theorem OnlyCore.stepped' (s : State) (qs : List OutReq) : OnlyCore s ((s.enqueue qs).stepped) := rfl

theorem OnlyCore.core (s : State) (c : Core) : OnlyCore s ((s.setCore c).stepped) := rfl

theorem execLoadStoreFetch_next {a : Access} {s t : State} (h : execLoadStoreFetch a s = .next t) :
    t = (s.enqueue [accessOut a]).stepped := by
  unfold execLoadStoreFetch at h
  generalize accessAligned a = x at h
  by_cases h1 : a.addr.toNat < 2 ^ 50
  · rw [if_pos h1] at h
    cases x
    · simp at h
    · simp at h
      exact h.symm
  · rw [if_neg h1] at h
    simp at h

/-- A core instruction reaches the core and what it hands over; it writes no general, floating-point or predicate
register. -/
theorem exec_core_frame {i : Instr} (hi : i.isCore = true) {s t : State} (h : exec i s = .next t) :
    OnlyCore s t ∧ t.core.gr = s.core.gr ∧ t.core.fr = s.core.fr ∧ t.core.pr = s.core.pr ∧
      t.core.saved = s.core.saved := by
  have eoi : ∀ c : Core, c.eoi.gr = c.gr ∧ c.eoi.fr = c.fr ∧ c.eoi.pr = c.pr ∧ c.eoi.saved = c.saved := by
    intro c
    unfold Core.eoi
    split <;> exact ⟨rfl, rfl, rfl, rfl⟩
  cases i <;> simp only [Instr.isCore, Bool.false_eq_true] at hi
  case eoi => obtain rfl := Host.Outcome.next.inj h; exact ⟨.core .., eoi s.core⟩
  case loadStoreFetch =>
    rw [execLoadStoreFetch_next h]
    exact ⟨.stepped' .., rfl, rfl, rfl, rfl⟩
  case fc => obtain rfl := Host.Outcome.next.inj h; exact ⟨.issued .., rfl, rfl, rfl, rfl⟩
  case cpuid => obtain rfl := Host.Outcome.next.inj h; exact ⟨.core .., rfl, rfl, rfl, rfl⟩
  case stopgrantAck => obtain rfl := Host.Outcome.next.inj h; exact ⟨.core s s.core, rfl, rfl, rfl, rfl⟩
  case tlbPurge => obtain rfl := Host.Outcome.next.inj h; exact ⟨.issued .., rfl, rfl, rfl, rfl⟩
  all_goals obtain rfl := Host.Outcome.next.inj h; exact ⟨.stepped .., rfl, rfl, rfl, rfl⟩

/-- Every instruction travels in one of four ways. -/
theorem encode_cases (c : OpenCells) (i : Instr) :
    (∃ items, encode c i = .packet items) ∨ (∃ r w, encode c i = encodeRequest r w) ∨ (∃ r, encode c i = .special r) ∨
      i.isCore = true := by
  cases i
  case eeSequentialRead sel st n => cases st <;> exact .inl ⟨_, rfl⟩
  case sensorReservedCommand a c f => cases f <;> exact .inl ⟨_, rfl⟩
  all_goals
    first
    | exact .inl ⟨_, rfl⟩
    | exact .inr (.inl ⟨_, _, rfl⟩)
    | exact .inr (.inr (.inl ⟨_, rfl⟩))
    | exact .inr (.inr (.inr rfl))

/-- No instruction reaches memory, the thermal monitor or the platform. -/
theorem exec_outside {i : Instr} {s t : State} (h : exec i s = .next t) :
    t.mem = s.mem ∧ t.thermal = s.thermal ∧ t.platform = s.platform := by
  rcases encode_cases OpenCells.default i with ⟨l, he⟩ | ⟨r, w, he⟩ | ⟨r, he⟩ | he
  · rw [exec_packet_frame he h]
    exact ⟨rfl, rfl, rfl⟩
  · rw [(exec_request_frame he h).state]; exact ⟨rfl, rfl, rfl⟩
  · rw [exec_special_frame he h]; exact ⟨rfl, rfl, rfl⟩
  · rw [(exec_core_frame he h).1]; exact ⟨rfl, rfl, rfl⟩

/-! ### The step -/

/-- Every way a step can go on. -/
theorem step_cases {s t : State} (h : step s = .next t) :
    (∃ r, s.special = some r ∧ exec (decodeSpecial r) { s with special := none } = .next t) ∨
    (s.special = none ∧ s.inputs = [] ∧ t = s) ∨
    (∃ x rest, s.Next x rest ∧ runInput x { s with inputs := rest } = .next t) := by
  unfold step runNext at h
  split at h
  · rename_i r hr
    exact .inl ⟨r, hr, h⟩
  · rename_i hs
    split at h
    · rename_i hi
      cases h
      exact .inr (.inl ⟨hs, hi, rfl⟩)
    · rename_i x rest hi
      exact .inr (.inr ⟨x, rest, ⟨hs, hi⟩, h⟩)

/-- The step at a state whose next event is known. -/
theorem step_next {s : State} {x : Input} {rest : List Input} (h : s.Next x rest) :
    step s = runInput x { s with inputs := rest } := by
  unfold step runNext
  rw [h.1, h.2]

/-- What a packet that is run can be. -/
theorem runPacket_cases {d : Decoded} {s t : State} (h : runPacket d s = .next t) :
    (∃ i, d = .instr i ∧ exec i s = .next t) ∨ (∃ sel da, d = .loadAddress sel da ∧ t = loadAddressPacket sel da s) ∨
    (∃ a, d = .probe a ∧ t = probePacket a s) ∨
    (∃ a c x, d = .abandonedRead a c x ∧ abandonedReadPacket a c x s = .next t) ∨
    (∃ l, d = .badPacket l ∧ l.any (addressesPackage s) = false ∧ t = s.unanswered) := by
  cases d with
  | instr i => exact .inl ⟨i, rfl, h⟩
  | loadAddress sel da => cases h; exact .inr (.inl ⟨_, _, rfl, rfl⟩)
  | probe a => cases h; exact .inr (.inr (.inl ⟨_, rfl, rfl⟩))
  | abandonedRead a c x => exact .inr (.inr (.inr (.inl ⟨_, _, _, rfl, h⟩)))
  | reservedAddress a => cases h
  | badPacket l =>
    cases l with
    | nil => cases h
    | cons b l =>
      simp only [runPacket] at h
      split at h
      · cases h
      · rename_i hb
        cases h; exact .inr (.inr (.inr (.inr ⟨_, rfl, Bool.eq_false_iff.mpr hb, rfl⟩)))
  | noRow w => cases h
  | notCore => cases h

theorem abandonedReadPacket_cases {a : SmbAddr} {c : Byte} {x : Bool} {s t : State}
    (h : abandonedReadPacket a c x s = .next t) :
    t = s.unanswered ∨
      t = (s.setSensor (s.sensor.commanded c)).answered (List.replicate (if x then 3 else 2) .ack) := by
  unfold abandonedReadPacket at h
  split at h
  · split at h
    · cases h; exact .inr rfl
    · cases h
  · cases h; exact .inl rfl

/-- Without PWRGOOD the processor takes no part in the bus and its core does not execute (R771). -/
theorem State.heldOff_of_pwrgood {s : State} (h : s.platform.pwrgood = false) : s.onBus = false ∧ s.coreReady = false := by
  simp [State.onBus, State.coreReady, h]

/-- What carrying out a purge can do: nothing, or the purge at the head, by a processor that takes part in the bus. -/
theorem purgeDone_cases (s : State) :
    purgeDone s = s ∨ ∃ r rest, s.onBus = true ∧ s.bus.tlbPurging = r :: rest ∧ purgeDone s =
      { s with core := { s.core with tlb := purgeTlb s.core.tlb r }, bus := { s.bus with tlbPurging := rest } } := by
  cases h : s.onBus
  · exact .inl (by simp [purgeDone, h])
  · cases hp : s.bus.tlbPurging with
    | nil => exact .inl (by simp [purgeDone, h, hp])
    | cons r rest => exact .inr ⟨r, rest, rfl, rfl, by simp [purgeDone, h, hp]⟩

/-- A packet reaches nothing but the SMBus devices. -/
theorem runPacket_frame {c : OpenCells} {smwp : Bool} {items : List HostItem} {s t : State}
    (h : runPacket (decode c smwp (.packet items)) s = .next t) : OnlySmbus s t := by
  rcases runPacket_cases h with ⟨i, hd, he⟩ | ⟨sel, da, _, rfl⟩ | ⟨a, _, rfl⟩ | ⟨a, d, x, _, he⟩ | ⟨l, _, _, rfl⟩
  · obtain ⟨l, hl⟩ := decode_packet_encode hd
    exact exec_packet_frame hl he
  · unfold loadAddressPacket
    split
    · cases sel.pirom <;> rfl
    · rfl
  · unfold probePacket
    split <;> rfl
  · rcases abandonedReadPacket_cases he with rfl | rfl <;> rfl
  · rfl

/-- It changes no byte of the PIROM, and none of the scratch EEPROM while SMWP is high. -/
theorem runPacket_mem {c : OpenCells} {smwp : Bool} {items : List HostItem} {s t : State}
    (h : runPacket (decode c smwp (.packet items)) s = .next t) :
    t.pirom.mem = s.pirom.mem ∧ (s.platform.smwp = true → t.scratch.mem = s.scratch.mem) := by
  rcases runPacket_cases h with ⟨i, hd, he⟩ | ⟨sel, da, _, rfl⟩ | ⟨a, _, rfl⟩ | ⟨a, d, x, _, he⟩ | ⟨l, _, _, rfl⟩
  · obtain ⟨l, hl⟩ := decode_packet_encode hd
    exact exec_packet_mem hl he
  · unfold loadAddressPacket
    split
    · cases h : sel.pirom <;> simp [State.eeprom]
    · exact ⟨rfl, fun _ => rfl⟩
  · unfold probePacket
    split <;> exact ⟨rfl, fun _ => rfl⟩
  · rcases abandonedReadPacket_cases he with rfl | rfl <;> exact ⟨rfl, fun _ => rfl⟩
  · exact ⟨rfl, fun _ => rfl⟩

/-- What a bus clock that is run can be. -/
theorem runClock_cases {p : Pins} {s t : State} (h : runClock p s = .next t) :
    t = s ∨ t = binitClock (merged s p) s ∨
    (∃ (c : OpenCells) (r : Request) (w : BitVec 12) (i : Instr), encode c i = encodeRequest r w ∧
      exec i { clockPrologue p s with bus := { (clockPrologue p s).bus with latchA := none } } = .next t) ∨
    (∃ l, t = { clockPrologue p s with bus := { (clockPrologue p s).bus with latchA := l } }) := by
  unfold runClock at h
  simp only at h
  split at h
  · cases h; exact .inl rfl
  · split at h
    · cases h
    · split at h
      · cases h; exact .inr (.inl rfl)
      · split at h
        · cases h
        · unfold requestPhase at h
          split at h
          · split at h
            · rename_i i hd
              obtain ⟨r, w, hw⟩ := decode_request_encode hd
              exact .inr (.inr (.inl ⟨_, r, w, i, hw, h⟩))
            · cases h
          · cases h
            exact .inr (.inr (.inr ⟨_, rfl⟩))

/-- Only the completion of a transaction writes memory in a clock, and it keeps the canonical form. -/
theorem completeTxn_wf (t : Txn) (ok : Bool) {s : State} (h : s.mem.wf = true) : (completeTxn t ok s).mem.wf = true := by
  unfold completeTxn
  simp only
  cases ok
  · exact h
  · exact memoryAfter_wf _ _ h

theorem retire_wf {s : State} (h : s.mem.wf = true) : (retire s).mem.wf = true := by
  unfold retire
  split
  · exact h
  · simp only
    split
    · exact h
    · exact h
    · exact h
    · exact completeTxn_wf _ _ h
    · split
      · exact completeTxn_wf _ _ h
      · exact h
    · split
      · exact completeTxn_wf _ _ h
      · exact h

theorem clockPrologue_wf (p : Pins) {s : State} (h : s.mem.wf = true) : (clockPrologue p s).mem.wf = true := by
  unfold clockPrologue clockPhases
  simp only [issueStep_mem]
  apply retire_wf
  simpa using h

/-- An internal step of the core reaches the core, the bus agent and the ETM enable; that of ETM what the thermal monitor
then does. -/
theorem coreAct_frame (a : CoreAct) (s : State) :
    (∃ e, a = .etm e ∧ coreAct a s = thermalStep 0 { s with thermal := setEtm e s.thermal }) ∨
    coreAct a s = { s with core := (coreAct a s).core, bus := (coreAct a s).bus } := by
  unfold coreAct
  generalize a.ready s = ready
  cases ready
  · exact .inr rfl
  · rw [if_pos rfl]
    cases a
    case request i d e =>
      simp only [coreActEffect]
      split <;> exact .inr rfl
    case etm e => exact .inl ⟨e, rfl, rfl⟩
    all_goals exact .inr rfl

/-- Taking an event reaches the core and what it hands over. -/
theorem takeInterrupt_frame (s : State) : OnlyCore s (takeInterrupt s) := by
  unfold takeInterrupt
  split
  · split
    · rename_i x _
      cases x <;> rfl
    · rfl
  · rfl

/-- What a core instruction that is run can be. -/
theorem runCore_cases {i : Instr} {s t : State} (h : runCore i s = .next t) :
    t = s ∨ (i.isCore = true ∧ exec i s = .next t) := by
  unfold runCore decode at h
  simp only at h
  split at h
  · rename_i heq
    split at heq
    · rename_i hc
      cases heq
      split at h
      · exact .inr ⟨hc, h⟩
      · cases h; exact .inl rfl
    · cases heq
  · cases h; exact .inl rfl

/-! ### The caches -/

/-- A dropped line is held no longer, every other as before. -/
theorem findLine_dropLine (cs : List CacheLine) (l m : LineAddr) :
    findLine (dropLine cs l) m = if m = l then none else findLine cs m := by
  unfold dropLine
  induction cs with
  | nil => simp [findLine]
  | cons c cs ih =>
    by_cases h : c.line = l
    · subst h
      by_cases hm : c.line = m
      · subst hm; simpa using ih
      · simpa [findLine, hm] using ih
    · by_cases hm : c.line = m
      · subst hm; simp [findLine, h]
      · simpa [findLine, h, hm] using ih

/-- A line that is put into the caches is held, every other as before. -/
theorem findLine_setLine (cs : List CacheLine) (c : CacheLine) (m : LineAddr) :
    findLine (setLine cs c) m = if c.line = m then some c else findLine cs m := by
  unfold setLine
  simp only [findLine, findLine_dropLine]
  split
  · rfl
  · rename_i h; rw [if_neg (Ne.symm h)]

/-- A cleaned line is held unmodified if it was held, every other as before. -/
theorem findLine_cleanLine (cs : List CacheLine) (l m : LineAddr) :
    findLine (cleanLine cs l) m =
      if m = l then (findLine cs m).map (fun c => { c with modified := false }) else findLine cs m := by
  unfold cleanLine
  induction cs with
  | nil => simp [findLine]
  | cons c cs ih =>
    by_cases h : c.line = l <;> by_cases hm : c.line = m <;> simp_all [findLine]

/-- What is left of the requests to write back a line that has been supplied: one that writes back another line, or nothing,
stays, a flush goes on without the line, a plain write-back is gone (R661). -/
theorem mem_dropWritebacks {t : Txn} (ht : t.supplies = true) (qs : List OutReq) (w : OutReq) :
    w ∈ dropWritebacks t qs ↔
      (w ∈ qs ∧ pendingWriteback [w] (lineOf t.req.addr) = none) ∨
      ∃ q ∈ qs, pendingWriteback [q] (lineOf t.req.addr) ≠ none ∧ q.afterSupply (lineOf t.req.addr) = some w := by
  unfold dropWritebacks
  rw [if_pos ht, List.mem_filterMap]
  constructor
  · rintro ⟨q, hq, h⟩
    split at h
    · rename_i hn
      cases h
      exact .inl ⟨hq, Option.isNone_iff_eq_none.mp hn⟩
    · rename_i hn
      exact .inr ⟨q, hq, fun e => hn (by rw [e]; rfl), h⟩
  · rintro (⟨hw, hn⟩ | ⟨q, hq, hn, h⟩)
    · exact ⟨w, hw, by rw [hn]; rfl⟩
    · refine ⟨q, hq, ?_⟩
      rw [if_neg (fun e => hn (Option.isNone_iff_eq_none.mp e))]
      exact h

/-! ### Deferred phases -/

/-- All a deferred phase can do: take up the transaction of its identifier, if that came with DPS#, or nothing (R626). -/
theorem matchDeferred_cases (q : Pins) (b : Bus) :
    (∃ ida t, b.idLatch = some ida ∧ findDeferred b.deferred ida = some t ∧ t.req.b.dps = true ∧
      matchDeferred q b =
        { b with deferred := dropDeferred b.deferred ida, ioq := b.ioq ++ [deferredTxn t (q.id.getLsbD 2) q.bilLine] }) ∨
    ((∀ ida t, b.idLatch = some ida → findDeferred b.deferred ida = some t → t.req.b.dps = false) ∧
      matchDeferred q b = b) := by
  unfold matchDeferred
  cases hl : b.idLatch with
  | none => exact .inr ⟨by simp, rfl⟩
  | some ida =>
    cases hf : findDeferred b.deferred ida with
    | none => exact .inr ⟨by rintro _ t ⟨⟩ h; exact (nomatch hf.symm.trans h), by simp [hf]⟩
    | some t =>
      cases hd : t.req.b.dps
      · exact .inr ⟨by rintro _ u ⟨⟩ h; exact Option.some.inj (hf.symm.trans h) ▸ hd, by simp [hf, hd]⟩
      · exact .inl ⟨ida, t, rfl, hf, hd, by simp [hf, hd]⟩

/-! ### The thermal monitor -/

/-- What the evaluation of ETM leaves at the die temperature it was evaluated at (R361, R363). -/
theorem Thermal.etm_settled (x : Thermal) (d : Int) (us : Nat) (h : (x.etm d us).1.etmEnabled = true) :
    ((x.etm d us).1.mode = .normal → d ≤ Config.tEtmEntry) ∧
    ((x.etm d us).1.mode = .etmLowPower → Config.tEtmEntry ≤ d → (x.etm d us).1.belowTime = 0) := by
  have hd : 0 < Config.etmExitDelay := Nat.succ_pos _
  unfold Thermal.etm at h ⊢
  cases he : x.etmEnabled
  · simp [he] at h
  · rw [if_neg (by simp)]
    cases hm : x.mode <;> simp only
    · split <;> simp_all
    · split <;> split <;> simp_all
      omega
    · simp [hm]

/-- The monitor has nothing left to do once it has been evaluated (R360). -/
theorem thermalStep_settled (us : Nat) (s : State) : (thermalStep us s).Settled := by
  intro hp hr ht
  unfold thermalStep at hp hr ht ⊢
  split at hp
  · rename_i h
    rw [if_pos h] at hr
    simp [hr, hp] at h
  · rename_i h0
    rw [if_neg h0] at ht ⊢
    split at hp
    · rename_i h; rw [if_pos h] at ht; exact absurd h ht
    · rename_i h1
      rw [if_neg h1] at ht ⊢
      split at hp
      · rename_i h; rw [if_pos h] at ht; exact absurd rfl ht
      · rename_i h2
        rw [if_neg h2]
        exact ⟨Int.not_lt.mp h2, Thermal.etm_settled _ _ _⟩

/-- A state with the same monitor, die temperature, power and RESET# is settled if this one is. -/
theorem State.Settled.congr {s t : State} (h : s.Settled) (hr : t.bus.inReset = s.bus.inReset)
    (ht : t.thermal = s.thermal) (hp : t.platform.powerState = s.platform.powerState)
    (hd : t.platform.dieTemp = s.platform.dieTemp) : t.Settled := by
  unfold State.Settled State.powered at *
  rw [hr, ht, hp, hd]
  exact h

/-! ### RESET# -/

/-- What RESET# gives the core and the bus agent has the values of R779. -/
theorem heldInReset_resetValues (s : State) : (heldInReset s).ResetValues := by
  simp [State.ResetValues, Core.inReset, Core.reset, Bus.reset]

/-- The thermal monitor does nothing while RESET# is asserted (R770, log 25). -/
theorem thermalStep_inReset (us : Nat) {s : State} (h : s.bus.inReset = true) : thermalStep us s = s := by
  simp [thermalStep, h]

/-- All a load step of the power pod can do to a processor in reset: the supply's state changes, and its loss draws the
unspecified registers anew; RESET# goes on holding the rest (R779, R812). -/
theorem powerStep_inReset {next : PowerState} {s t : State} (hr : s.bus.inReset = true)
    (h : powerStep next s = .next t) :
    (next ≠ .off ∧ t = { s with platform := { s.platform with powerState := next } }) ∨
    (next = .off ∧ t = { heldInReset s with platform := { s.platform with powerState := .off } }) := by
  unfold powerStep at h
  split at h
  · cases h
  · split at h
    · cases h
    · by_cases hn : next = .off
      · subst hn
        have ht := thermalStep_inReset 0 (s := { heldInReset s with platform := { s.platform with powerState := .off } }) rfl
        simp only [if_true] at h
        exact .inr ⟨rfl, (Host.Outcome.next.inj h).symm.trans ht⟩
      · have ht := thermalStep_inReset 0 (s := { s with platform := { s.platform with powerState := next } }) hr
        simp only [hn, if_false] at h
        exact .inl ⟨hn, (Host.Outcome.next.inj h).symm.trans ht⟩

end Sys2Proof.Machine
end

