-- ==== Sys2Proof/Laws/PerInstr.lean ====
section
/-! SUPPORT. Statements for all instructions, one lemma for each constructor. -/

namespace Sys2Proof.Laws

/-- How an instruction travels: a bus row as the two clocks of its request bits, a core instruction by its name, any other
as a packet or as a special transaction's code. -/
def Encoding.Statement (i : Instr) : Prop :=
  ∀ c : OpenCells, (∃ r, i.request = some r ∧ i.isCore = false ∧ encode c i = encodeRequest r (requestWord c i)) ∨
  (i.request = none ∧ i.isCore = true ∧ encode c i = .named i) ∨
  (i.request = none ∧ i.isCore = false ∧ ((∃ items, encode c i = .packet items) ∨ ∃ r, encode c i = .special r))

theorem Encoding.eeCurrentAddressRead (sel : EeSel) :
    Encoding.Statement (.eeCurrentAddressRead sel) := fun _ => .inr (.inr ⟨rfl, rfl, .inl ⟨_, rfl⟩⟩)
theorem Encoding.eeRandomRead (sel : EeSel) (da : Byte) :
    Encoding.Statement (.eeRandomRead sel da) := fun _ => .inr (.inr ⟨rfl, rfl, .inl ⟨_, rfl⟩⟩)
theorem Encoding.eeSequentialRead (sel : EeSel) (start : Option Byte) (more : Nat) : Encoding.Statement (.eeSequentialRead sel start more) := by
  intro c; cases start <;> exact .inr (.inr ⟨rfl, rfl, .inl ⟨_, rfl⟩⟩)
theorem Encoding.eeByteWrite (sma : BitVec 2) (da d : Byte) :
    Encoding.Statement (.eeByteWrite sma da d) := fun _ => .inr (.inr ⟨rfl, rfl, .inl ⟨_, rfl⟩⟩)
theorem Encoding.eePageWrite (sma : BitVec 2) (da : Byte) (data : List Byte) :
    Encoding.Statement (.eePageWrite sma da data) := fun _ => .inr (.inr ⟨rfl, rfl, .inl ⟨_, rfl⟩⟩)
theorem Encoding.eeWriteToPirom (sma : BitVec 2) (da : Byte) (data : List Byte) :
    Encoding.Statement (.eeWriteToPirom sma da data) := fun _ => .inr (.inr ⟨rfl, rfl, .inl ⟨_, rfl⟩⟩)
theorem Encoding.eeWriteProtected (sma : BitVec 2) (da : Byte) (data : List Byte) :
    Encoding.Statement (.eeWriteProtected sma da data) := fun _ => .inr (.inr ⟨rfl, rfl, .inl ⟨_, rfl⟩⟩)
theorem Encoding.rrt (t : SmbAddr) : Encoding.Statement (.rrt t) := fun _ => .inr (.inr ⟨rfl, rfl, .inl ⟨_, rfl⟩⟩)
theorem Encoding.rs (t : SmbAddr) : Encoding.Statement (.rs t) := fun _ => .inr (.inr ⟨rfl, rfl, .inl ⟨_, rfl⟩⟩)
theorem Encoding.rc (t : SmbAddr) : Encoding.Statement (.rc t) := fun _ => .inr (.inr ⟨rfl, rfl, .inl ⟨_, rfl⟩⟩)
theorem Encoding.rcr (t : SmbAddr) : Encoding.Statement (.rcr t) := fun _ => .inr (.inr ⟨rfl, rfl, .inl ⟨_, rfl⟩⟩)
theorem Encoding.rrhl (t : SmbAddr) : Encoding.Statement (.rrhl t) := fun _ => .inr (.inr ⟨rfl, rfl, .inl ⟨_, rfl⟩⟩)
theorem Encoding.rrll (t : SmbAddr) : Encoding.Statement (.rrll t) := fun _ => .inr (.inr ⟨rfl, rfl, .inl ⟨_, rfl⟩⟩)
theorem Encoding.wc (t : SmbAddr) (d : Byte) :
    Encoding.Statement (.wc t d) := fun _ => .inr (.inr ⟨rfl, rfl, .inl ⟨_, rfl⟩⟩)
theorem Encoding.wcr (t : SmbAddr) (d : Byte) :
    Encoding.Statement (.wcr t d) := fun _ => .inr (.inr ⟨rfl, rfl, .inl ⟨_, rfl⟩⟩)
theorem Encoding.wrhl (t : SmbAddr) (d : Byte) :
    Encoding.Statement (.wrhl t d) := fun _ => .inr (.inr ⟨rfl, rfl, .inl ⟨_, rfl⟩⟩)
theorem Encoding.wrll (t : SmbAddr) (d : Byte) :
    Encoding.Statement (.wrll t d) := fun _ => .inr (.inr ⟨rfl, rfl, .inl ⟨_, rfl⟩⟩)
theorem Encoding.osht (t : SmbAddr) : Encoding.Statement (.osht t) := fun _ => .inr (.inr ⟨rfl, rfl, .inl ⟨_, rfl⟩⟩)
theorem Encoding.ara : Encoding.Statement (.ara) := fun _ => .inr (.inr ⟨rfl, rfl, .inl ⟨_, rfl⟩⟩)
theorem Encoding.receiveByte (t : SmbAddr) :
    Encoding.Statement (.receiveByte t) := fun _ => .inr (.inr ⟨rfl, rfl, .inl ⟨_, rfl⟩⟩)
theorem Encoding.sensorReservedCommand (t : SmbAddr) (c : Byte) (form : SensorForm) : Encoding.Statement (.sensorReservedCommand t c form) := by
  intro c; cases form <;> exact .inr (.inr ⟨rfl, rfl, .inl ⟨_, rfl⟩⟩)
theorem Encoding.deferredReply (r : Request) (low : BitVec 3) :
    Encoding.Statement (.deferredReply r low) := fun _ => .inl ⟨_, rfl, rfl, rfl⟩
theorem Encoding.interruptAcknowledge (r : Request) :
    Encoding.Statement (.interruptAcknowledge r) := fun _ => .inl ⟨_, rfl, rfl, rfl⟩
theorem Encoding.special (r : Request) : Encoding.Statement (.special r) := fun _ => .inl ⟨_, rfl, rfl, rfl⟩
theorem Encoding.interrupt (r : Request) : Encoding.Statement (.interrupt r) := fun _ => .inl ⟨_, rfl, rfl, rfl⟩
theorem Encoding.purgeTc (r : Request) : Encoding.Statement (.purgeTc r) := fun _ => .inl ⟨_, rfl, rfl, rfl⟩
theorem Encoding.ioRead (r : Request) (low : BitVec 3) :
    Encoding.Statement (.ioRead r low) := fun _ => .inl ⟨_, rfl, rfl, rfl⟩
theorem Encoding.ioWrite (r : Request) (low : BitVec 3) :
    Encoding.Statement (.ioWrite r low) := fun _ => .inl ⟨_, rfl, rfl, rfl⟩
theorem Encoding.memReadInvalidate (r : Request) (asz : BitVec 2) (len : BitVec 3) :
    Encoding.Statement (.memReadInvalidate r asz len) := fun _ => .inl ⟨_, rfl, rfl, rfl⟩
theorem Encoding.memRead (r : Request) (asz : BitVec 2) (dc : BitVec 1) (len : BitVec 3) :
    Encoding.Statement (.memRead r asz dc len) := fun _ => .inl ⟨_, rfl, rfl, rfl⟩
theorem Encoding.memWrite (r : Request) (asz : BitVec 2) (wsnp : BitVec 1) (len : BitVec 3) :
    Encoding.Statement (.memWrite r asz wsnp len) := fun _ => .inl ⟨_, rfl, rfl, rfl⟩
theorem Encoding.memReadCurrent (r : Request) (asz : BitVec 2) (len : BitVec 3) :
    Encoding.Statement (.memReadCurrent r asz len) := fun _ => .inl ⟨_, rfl, rfl, rfl⟩
theorem Encoding.cacheLineReplacement (r : Request) (asz : BitVec 2) (wsnp : BitVec 1) :
    Encoding.Statement (.cacheLineReplacement r asz wsnp) := fun _ => .inl ⟨_, rfl, rfl, rfl⟩
theorem Encoding.reservedReq000001 (r : Request) (low : BitVec 3) :
    Encoding.Statement (.reservedReq000001 r low) := fun _ => .inl ⟨_, rfl, rfl, rfl⟩
theorem Encoding.reservedReq00100001x (r : Request) (x : BitVec 1) :
    Encoding.Statement (.reservedReq00100001x r x) := fun _ => .inl ⟨_, rfl, rfl, rfl⟩
theorem Encoding.reservedReq0010010xx (r : Request) (x : BitVec 2) :
    Encoding.Statement (.reservedReq0010010xx r x) := fun _ => .inl ⟨_, rfl, rfl, rfl⟩
theorem Encoding.reservedReq00100111x (r : Request) (x : BitVec 1) :
    Encoding.Statement (.reservedReq00100111x r x) := fun _ => .inl ⟨_, rfl, rfl, rfl⟩
theorem Encoding.reservedReq01100x (r : Request) (x : BitVec 1) (low : BitVec 3) :
    Encoding.Statement (.reservedReq01100x r x low) := fun _ => .inl ⟨_, rfl, rfl, rfl⟩
theorem Encoding.reservedReq0Asz011 (r : Request) (asz : BitVec 2) (len : BitVec 3) :
    Encoding.Statement (.reservedReq0Asz011 r asz len) := fun _ => .inl ⟨_, rfl, rfl, rfl⟩
theorem Encoding.reservedReq1Asz100 (r : Request) (asz : BitVec 2) (len : BitVec 3) :
    Encoding.Statement (.reservedReq1Asz100 r asz len) := fun _ => .inl ⟨_, rfl, rfl, rfl⟩
theorem Encoding.specialNop (r : Request) :
    Encoding.Statement (.specialNop r) := fun _ => .inr (.inr ⟨rfl, rfl, .inr ⟨_, rfl⟩⟩)
theorem Encoding.specialShutdown (r : Request) :
    Encoding.Statement (.specialShutdown r) := fun _ => .inr (.inr ⟨rfl, rfl, .inr ⟨_, rfl⟩⟩)
theorem Encoding.specialFlush (r : Request) :
    Encoding.Statement (.specialFlush r) := fun _ => .inr (.inr ⟨rfl, rfl, .inr ⟨_, rfl⟩⟩)
theorem Encoding.specialHalt (r : Request) :
    Encoding.Statement (.specialHalt r) := fun _ => .inr (.inr ⟨rfl, rfl, .inr ⟨_, rfl⟩⟩)
theorem Encoding.specialSync (r : Request) :
    Encoding.Statement (.specialSync r) := fun _ => .inr (.inr ⟨rfl, rfl, .inr ⟨_, rfl⟩⟩)
theorem Encoding.specialStopgrantAck (r : Request) :
    Encoding.Statement (.specialStopgrantAck r) := fun _ => .inr (.inr ⟨rfl, rfl, .inr ⟨_, rfl⟩⟩)
theorem Encoding.specialXtprUpdate (r : Request) :
    Encoding.Statement (.specialXtprUpdate r) := fun _ => .inr (.inr ⟨rfl, rfl, .inr ⟨_, rfl⟩⟩)
theorem Encoding.specialReserved (r : Request) :
    Encoding.Statement (.specialReserved r) := fun _ => .inr (.inr ⟨rfl, rfl, .inr ⟨_, rfl⟩⟩)
theorem Encoding.fc (line : LineAddr) : Encoding.Statement (.fc line) := fun _ => .inr (.inl ⟨rfl, rfl, rfl⟩)
theorem Encoding.cpuid (reg : CpuidReg) : Encoding.Statement (.cpuid reg) := fun _ => .inr (.inl ⟨rfl, rfl, rfl⟩)
theorem Encoding.eoi : Encoding.Statement (.eoi) := fun _ => .inr (.inl ⟨rfl, rfl, rfl⟩)
theorem Encoding.tlbPurge (range : PurgeRange) :
    Encoding.Statement (.tlbPurge range) := fun _ => .inr (.inl ⟨rfl, rfl, rfl⟩)
theorem Encoding.halt : Encoding.Statement (.halt) := fun _ => .inr (.inl ⟨rfl, rfl, rfl⟩)
theorem Encoding.shutdown : Encoding.Statement (.shutdown) := fun _ => .inr (.inl ⟨rfl, rfl, rfl⟩)
theorem Encoding.stopgrantAck : Encoding.Statement (.stopgrantAck) := fun _ => .inr (.inl ⟨rfl, rfl, rfl⟩)
theorem Encoding.invd : Encoding.Statement (.invd) := fun _ => .inr (.inl ⟨rfl, rfl, rfl⟩)
theorem Encoding.wbinvd : Encoding.Statement (.wbinvd) := fun _ => .inr (.inl ⟨rfl, rfl, rfl⟩)
theorem Encoding.xtprUpdate (value : BitVec 4) (disable : Bool) :
    Encoding.Statement (.xtprUpdate value disable) := fun _ => .inr (.inl ⟨rfl, rfl, rfl⟩)
theorem Encoding.loadStoreFetch (a : Access) :
    Encoding.Statement (.loadStoreFetch a) := fun _ => .inr (.inl ⟨rfl, rfl, rfl⟩)

end Sys2Proof.Laws
end

