-- ==== Sys2Proof/Tests/Slice0.lean ====
section
/-! SUPPORT. Tests: ill-formed terms that WellFormed refuses, words written out from the encoding tables, small steps with
the expected results of 95_test_vectors.md, and for every statement with hypotheses a state that meets them. -/

set_option Elab.async false

namespace Sys2Proof.Tests

open Sys2Proof Sys2Proof.Machine

/-! ### Helpers -/

/-- The outcome is a next state for which `p` holds. -/
def goesTo (o : Host.Outcome State Fault Refusal) (p : State → Bool) : Bool :=
  match o with
  | .next t => p t
  | _ => false

/-- The outcome is this refusal. -/
def refusedAs (o : Host.Outcome State Fault Refusal) (r : Refusal) : Bool :=
  match o with
  | .refused x => x == r
  | _ => false

/-- The machine after reset with one event to come. -/
def withInput (x : Input) : State := { State.reset with inputs := [x] }

/-- Scratch EEPROM and PIROM hold at each offset the offset; the scratch counter is 20h (vectors E8 to E19). -/
def counting : State :=
  { State.reset with
    scratch := { mem := Vector.ofFn fun i : Fin 128 => BitVec.ofNat 8 i.val, counter := 0x20 },
    pirom := { mem := Vector.ofFn fun i : Fin 128 => BitVec.ofNat 8 i.val, counter := 0x20 } }

/-- The machine after reset with a sensor changed by `f`. -/
def sensing (f : Sensor → Sensor) : State := { State.reset with sensor := f State.reset.sensor }

/-- The machine after reset with a core changed by `f`. -/
def thinking (f : Core → Core) : State := { State.reset with core := f State.reset.core }

/-- The machine after reset with a bus agent changed by `f`. -/
def onBusWith (f : Bus → Bus) : State := { State.reset with bus := f State.reset.bus }

/-- The sensor address of the unconnected straps: 52h (R143). -/
def sensor52 : SmbAddr := 0b0101001#7

/-- A request of this processor with every other field 0. -/
def plain : Request := { addr := 0, b := clockB 0, dsz := 0b01 }

/-- A request with a special code (R170). -/
def coded (be : BitVec 8) : Request := { plain with b := { plain.b with be } }

/-- What the twelve request bits decode to, every other pin 0 and the lost cells at the spec's default. -/
def words (a b : BitVec 6) : Decoded :=
  decode OpenCells.default false (.request { pins := 0, req := a } { pins := 0, req := b })

/-- What a packet decodes to. -/
def sent (items : List HostItem) : Decoded := decode OpenCells.default false (.packet items)

/-! ### WellFormed: every check refuses an ill-formed term -/

theorem test_illformed_sensor_address : Instr.malformed (.rrt 0b1010000#7) = some .sensorAddress := by decide
theorem test_illformed_sensor_address_ara : Instr.malformed (.rs 0b0001100#7) = some .sensorAddress := by decide
theorem test_illformed_no_data : Instr.malformed (.eeWriteToPirom 0 0x05 []) = some .noData := by decide
theorem test_illformed_short_page : Instr.malformed (.eePageWrite 0 0x05 [0xAA]) = some .shortPage := by decide
theorem test_illformed_no_acknowledge : Instr.malformed (.eeSequentialRead ⟨0, false⟩ none 0) = some .noAcknowledge := by decide
theorem test_illformed_defined_command : Instr.malformed (.sensorReservedCommand sensor52 0x01 .read) = some .definedCommand := by decide
theorem test_illformed_be_code : Instr.malformed (.specialHalt (coded 0x04)) = some .beCode := by decide
theorem test_illformed_asz : Instr.malformed (.memRead plain 0b10 1 0) = some .asz := by decide
theorem test_illformed_attr : Instr.malformed (.memRead { plain with b := { plain.b with attr := 0b0001 } } 0b01 1 0) = some .attr := by decide
theorem test_illformed_dsz : Instr.malformed (.memRead { plain with dsz := 0b00 } 0b01 1 0) = some .dsz := by decide
theorem test_illformed_len : Instr.malformed (.memRead plain 0b01 1 0b101) = some .len := by decide
theorem test_illformed_alignment : Instr.malformed (.memRead { plain with addr := 8 } 0b01 1 0b100) = some .alignment := by decide
theorem test_illformed_config_reserved : Instr.malformed (.wc sensor52 0x80) = some .configReserved := by decide
theorem test_illformed_rate_reserved : Instr.malformed (.wcr sensor52 0x08) = some .rateReserved := by decide
theorem test_wellformed : (Instr.memRead { plain with addr := 0x10 } 0b01 1 0b100).wf = true := by decide

/-! ### Decoding: a word of every constructor, from R142 to R171 and Tables 6-6 to 6-13, A-3 and A-10 -/

theorem test_decode_ee_current_address_read :
    sent [.start, .byte 0xA1, .nack, .stop] =
      .instr (.eeCurrentAddressRead ⟨0, false⟩) := by decide
theorem test_decode_ee_random_read :
    sent [.start, .byte 0xAE, .byte 0x7F, .start, .byte 0xAF, .nack, .stop] =
      .instr (.eeRandomRead ⟨0b11, true⟩ 0x7F) := by decide
theorem test_decode_ee_sequential_read :
    sent [.start, .byte 0xA0, .byte 0x7E, .start, .byte 0xA1, .ack, .ack, .ack, .nack, .stop] =
      .instr (.eeSequentialRead ⟨0, false⟩ (some 0x7E) 3) := by decide
theorem test_decode_ee_byte_write :
    sent [.start, .byte 0xA4, .byte 0x05, .byte 0xAA, .stop] =
      .instr (.eeByteWrite 0b01 0x05 0xAA) := by decide
theorem test_decode_ee_page_write :
    sent [.start, .byte 0xA8, .byte 0x0D, .byte 0x11, .byte 0x22, .stop] =
      .instr (.eePageWrite 0b10 0x0D [0x11, 0x22]) := by decide
theorem test_decode_ee_write_to_pirom :
    sent [.start, .byte 0xA2, .byte 0x05, .byte 0xAA, .stop] =
      .instr (.eeWriteToPirom 0 0x05 [0xAA]) := by decide
theorem test_decode_ee_write_protected :
    decode OpenCells.default true (.packet [.start, .byte 0xA0, .byte 0x05, .byte 0xAA, .stop]) = .instr (.eeWriteProtected 0 0x05 [0xAA]) := by decide
theorem test_decode_rrt :
    sent [.start, .byte 0x52, .byte 0x01, .start, .byte 0x53, .nack, .stop] =
      .instr (.rrt sensor52) := by decide
theorem test_decode_rs :
    sent [.start, .byte 0x52, .byte 0x02, .start, .byte 0x53, .nack, .stop] =
      .instr (.rs sensor52) := by decide
theorem test_decode_rc :
    sent [.start, .byte 0x52, .byte 0x03, .start, .byte 0x53, .nack, .stop] =
      .instr (.rc sensor52) := by decide
theorem test_decode_rcr :
    sent [.start, .byte 0x52, .byte 0x04, .start, .byte 0x53, .nack, .stop] =
      .instr (.rcr sensor52) := by decide
theorem test_decode_rrhl :
    sent [.start, .byte 0x52, .byte 0x07, .start, .byte 0x53, .nack, .stop] =
      .instr (.rrhl sensor52) := by decide
theorem test_decode_rrll :
    sent [.start, .byte 0x52, .byte 0x08, .start, .byte 0x53, .nack, .stop] =
      .instr (.rrll sensor52) := by decide
theorem test_decode_wc :
    sent [.start, .byte 0x52, .byte 0x09, .byte 0x40, .stop] =
      .instr (.wc sensor52 0x40) := by decide
theorem test_decode_wcr :
    sent [.start, .byte 0x52, .byte 0x0A, .byte 0x07, .stop] =
      .instr (.wcr sensor52 0x07) := by decide
theorem test_decode_wrhl :
    sent [.start, .byte 0x52, .byte 0x0D, .byte 0x69, .stop] =
      .instr (.wrhl sensor52 0x69) := by decide
theorem test_decode_wrll :
    sent [.start, .byte 0x52, .byte 0x0E, .byte 0xC9, .stop] =
      .instr (.wrll sensor52 0xC9) := by decide
theorem test_decode_osht : sent [.start, .byte 0x52, .byte 0x0F, .stop] = .instr (.osht sensor52) := by decide
theorem test_decode_ara : sent [.start, .byte 0x19, .nack, .stop] = .instr (.ara) := by decide
theorem test_decode_receive_byte :
    sent [.start, .byte 0x53, .nack, .stop] =
      .instr (.receiveByte sensor52) := by decide
theorem test_decode_sensor_reserved_command :
    sent [.start, .byte 0x52, .byte 0x05, .start, .byte 0x53, .nack, .stop] =
      .instr (.sensorReservedCommand sensor52 0x05 .read) := by decide
theorem test_decode_sensor_send_of_rrt :
    sent [.start, .byte 0x52, .byte 0x01, .stop] =
      .instr (.sensorReservedCommand sensor52 0x01 .send) := by decide
theorem test_decode_sensor_write_of_osht :
    sent [.start, .byte 0x52, .byte 0x0F, .byte 0x00, .stop] =
      .instr (.sensorReservedCommand sensor52 0x0F (.write 0x00)) := by decide
theorem test_decode_reserved_address : sent [.start, .byte 0x02, .nack, .stop] = .reservedAddress 0b0000001#7 := by decide
theorem test_decode_bad_packet : sent [.start, .byte 0xA1, .stop] = .badPacket [0xA1] := by decide
theorem test_decode_readdressed : sent [.start, .byte 0xA4, .byte 0x00, .start, .byte 0xA1, .nack, .stop] =
      .badPacket [0xA4, 0xA1] := by decide
theorem test_decode_deferred_reply : words 0b000000 0b001000 = .instr (.deferredReply plain 0) := by decide
theorem test_decode_interrupt_acknowledge :
    words 0b001000 0b001000 = .instr (.interruptAcknowledge plain) := by decide
theorem test_decode_special : words 0b001000 0b001001 = .instr (.special plain) := by decide
theorem test_decode_interrupt : words 0b001001 0b001100 = .instr (.interrupt plain) := by decide
theorem test_decode_purge_tc : words 0b001001 0b001101 = .instr (.purgeTc plain) := by decide
theorem test_decode_io_read : words 0b010000 0b001101 = .instr (.ioRead plain 0b101) := by decide
theorem test_decode_io_write : words 0b010001 0b001000 = .instr (.ioWrite plain 0) := by decide
theorem test_decode_mem_read_invalidate :
    words 0b001010 0b001100 = .instr (.memReadInvalidate plain 0b01 0b100) := by decide
theorem test_decode_mem_read_code : words 0b001100 0b001100 = .instr (.memRead plain 0b01 0 0b100) := by decide
theorem test_decode_mem_read_data : words 0b010110 0b001000 = .instr (.memRead plain 0b10 1 0) := by decide
theorem test_decode_mem_write : words 0b001101 0b001100 = .instr (.memWrite plain 0b01 0 0b100) := by decide
theorem test_decode_mem_write_snooped : words 0b010111 0b001000 = .instr (.memWrite plain 0b10 1 0) := by decide
/- The next two, INTERRUPT_ACKNOWLEDGE and RESERVED_REQ_1_ASZ_100 stand at the spec's default of the lost cells, which is a
parameter of the decoder (R162, R163; log 6). -/
theorem test_decode_mem_read_current :
    words 0b101000 0b001100 = .instr (.memReadCurrent plain 0b01 0b100) := by decide
theorem test_decode_cache_line_replacement :
    words 0b101111 0b001000 = .instr (.cacheLineReplacement plain 0b01 1) := by decide
theorem test_decode_reserved_000001 : words 0b000001 0b001000 = .instr (.reservedReq000001 plain 0) := by decide
theorem test_decode_reserved_001000_01x :
    words 0b001000 0b001011 = .instr (.reservedReq00100001x plain 1) := by decide
theorem test_decode_reserved_001001_0xx :
    words 0b001001 0b001011 = .instr (.reservedReq0010010xx plain 0b11) := by decide
theorem test_decode_reserved_001001_11x :
    words 0b001001 0b001110 = .instr (.reservedReq00100111x plain 0) := by decide
theorem test_decode_reserved_01100x : words 0b011001 0b001000 = .instr (.reservedReq01100x plain 1 0) := by decide
theorem test_decode_reserved_0_asz_011 :
    words 0b010011 0b001000 = .instr (.reservedReq0Asz011 plain 0b10 0) := by decide
theorem test_decode_reserved_1_asz_100 :
    words 0b101100 0b001000 = .instr (.reservedReq1Asz100 plain 0b01 0) := by decide
theorem test_decode_no_row : words 0b001110 0b101011 = .noRow 0b001110101011 := by decide
theorem test_decode_special_nop :
    decode OpenCells.default false (.special (coded 0x00)) = .instr (.specialNop (coded 0x00)) := by decide
theorem test_decode_special_shutdown :
    decode OpenCells.default false (.special (coded 0x01)) = .instr (.specialShutdown (coded 0x01)) := by decide
theorem test_decode_special_flush :
    decode OpenCells.default false (.special (coded 0x02)) = .instr (.specialFlush (coded 0x02)) := by decide
theorem test_decode_special_halt :
    decode OpenCells.default false (.special (coded 0x03)) = .instr (.specialHalt (coded 0x03)) := by decide
theorem test_decode_special_sync :
    decode OpenCells.default false (.special (coded 0x04)) = .instr (.specialSync (coded 0x04)) := by decide
theorem test_decode_special_stopgrantack :
    decode OpenCells.default false (.special (coded 0x06)) = .instr (.specialStopgrantAck (coded 0x06)) := by decide
theorem test_decode_special_xtprupdate :
    decode OpenCells.default false (.special (coded 0x08)) = .instr (.specialXtprUpdate (coded 0x08)) := by decide
theorem test_decode_special_reserved :
    decode OpenCells.default false (.special (coded 0x05)) = .instr (.specialReserved (coded 0x05)) := by decide
theorem test_decode_fc : 
    decode OpenCells.default false (.named (.fc 5)) = .instr (.fc 5) := by decide
theorem test_decode_cpuid : 
    decode OpenCells.default false (.named (.cpuid .id3)) = .instr (.cpuid .id3) := by decide
theorem test_decode_eoi : 
    decode OpenCells.default false (.named (.eoi)) = .instr (.eoi) := by decide
theorem test_decode_tlb_purge : 
    decode OpenCells.default false (.named (.tlbPurge ⟨0, 7⟩)) = .instr (.tlbPurge ⟨0, 7⟩) := by decide
theorem test_decode_halt : 
    decode OpenCells.default false (.named (.halt)) = .instr (.halt) := by decide
theorem test_decode_shutdown : 
    decode OpenCells.default false (.named (.shutdown)) = .instr (.shutdown) := by decide
theorem test_decode_stopgrant_ack : 
    decode OpenCells.default false (.named (.stopgrantAck)) = .instr (.stopgrantAck) := by decide
theorem test_decode_invd : 
    decode OpenCells.default false (.named (.invd)) = .instr (.invd) := by decide
theorem test_decode_wbinvd : 
    decode OpenCells.default false (.named (.wbinvd)) = .instr (.wbinvd) := by decide
theorem test_decode_xtpr_update : 
    decode OpenCells.default false (.named (.xtprUpdate 5 true)) = .instr (.xtprUpdate 5 true) := by decide

/-- A data read of 64 bytes, for the vectors of the core (V1's address). -/
def load64 : Access :=
  { kind := .load, addr := 0x12345640, memType := .writeback, len := .bytes64, be := 0, deferrable := true,
    snooped := false, exf2 := false, endian := .little, data := 0 }

theorem test_decode_load_store_fetch :
    decode OpenCells.default false (.named (.loadStoreFetch load64)) = .instr (.loadStoreFetch load64) := rfl
theorem test_decode_not_core :
    decode OpenCells.default false (.named (.rrt sensor52)) = .notCore := by decide

/-- V1 of 95_test_vectors.md: both clocks of a deferrable 64-byte data read by the processor with ID 2. -/
theorem test_encode_v1 :
    encode OpenCells.default (.memRead
        { addr := (0x0000012345640 >>> 3 : BitVec 50).setWidth 47,
          b := { clockB 0 with attr := 0b0111, did := 0x045, exf := 0b00011 }, dsz := 0b01 } 0b01 1 0b011) =
      .request { pins := (0x0000012345640 >>> 3 : BitVec 50).setWidth 47, req := 0b001110 }
        { pins := (0x0000700450018 >>> 3 : BitVec 50).setWidth 47, req := 0b001011 } := by decide

/-- V2: the two-byte write. -/
theorem test_encode_v2 :
    encode OpenCells.default (.memWrite
        { addr := (0x0001000000008 >>> 3 : BitVec 50).setWidth 47,
          b := { clockB 0 with be := 0b00001100, exf := 0b00001 }, dsz := 0b01 } 0b10 1 0b000) =
      .request { pins := (0x0001000000008 >>> 3 : BitVec 50).setWidth 47, req := 0b010111 }
        { pins := (0x0000000000C08 >>> 3 : BitVec 50).setWidth 47, req := 0b001000 } := by decide

/-- V3: SPECIAL_HALT by the processor with ID 3. -/
theorem test_encode_v3 :
    encode OpenCells.default (.special { addr := 0, b := { clockB 0 with did := 0x060, be := 0x03, exf := 0b00001 }, dsz := 0b01 }) =
      .request { pins := 0, req := 0b001000 }
        { pins := (0x0000000600308 >>> 3 : BitVec 50).setWidth 47, req := 0b001001 } := by decide

/-- The parity columns of V1, V2 and V3, and Y2 to Y9. -/
theorem test_parity :
    addressParity ((0x0000012345640 >>> 3 : BitVec 50).setWidth 47) = 0b11 ∧
    addressParity ((0x0000700450018 >>> 3 : BitVec 50).setWidth 47) = 0b11 ∧
    addressParity ((0x0001000000008 >>> 3 : BitVec 50).setWidth 47) = 0b11 ∧
    addressParity ((0x0000000000C08 >>> 3 : BitVec 50).setWidth 47) = 0b01 ∧
    addressParity ((0x0000000600308 >>> 3 : BitVec 50).setWidth 47) = 0b01 ∧
    requestParity true 0b001110 = false ∧ requestParity false 0b001011 = true ∧ requestParity true 0b010111 = true ∧
    requestParity false 0b001000 = true ∧ requestParity true 0b001000 = false ∧ requestParity false 0b001001 = false ∧
    addressParity 0x000000FFFFFF = 0b00 ∧ requestParity true 0 = true ∧ requestParity false 0b111111 = false ∧
    responseParity 0 = false ∧ responseParity 0b111 = true ∧ idParityA 0x045 = false ∧
    idParityB false 0b0000000100 = true := by decide

/-- The table's words: the byte of a current address read, a random read's three bytes, a request word. -/
theorem test_table_words :
    decodeTableWord 8 0xA1 = some (.eeCurrentAddressRead ⟨0, false⟩) ∧
    decodeTableWord 24 0xA27FA3 = some (.eeRandomRead ⟨0, true⟩ 0x7F) ∧
    decodeTableWord 24 0xA005AA = some (.eeByteWrite 0 0x05 0xAA) ∧ decodeTableWord 8 0x0F = some (.osht sensor52) ∧
    (decodeTableWord 12 0b001001001101).map (fun i => i == .purgeTc { plain with b := clockB tableClockB }) =
      some true := by decide

/-! ### Steps of the memories (vectors E8 to E19, P3) -/

/-- E8. -/
theorem test_current_address_read :
    goesTo (exec (.eeCurrentAddressRead ⟨0, false⟩) counting)
      (fun t => t.answer == [.ack, .data 0x20] && t.scratch.counter == 0x21) := by decide +kernel
/-- E10: bit 7 of the data address is ignored. -/
theorem test_random_read_wraps :
    goesTo (exec (.eeRandomRead ⟨0, false⟩ 0xFF) counting)
      (fun t => t.answer == [.ack, .ack, .ack, .data 0x7F] && t.scratch.counter == 0x00) := by decide +kernel
/-- E11. -/
theorem test_sequential_read_across_the_end :
    goesTo (exec (.eeSequentialRead ⟨0, false⟩ (some 0x7E) 3) counting)
      (fun t => t.answer == [.ack, .ack, .ack, .data 0x7E, .data 0x7F, .data 0x00, .data 0x01] &&
        t.scratch.counter == 0x02) := by decide +kernel
/-- E13. -/
theorem test_byte_write_at_page_end :
    goesTo (exec (.eeByteWrite 0 0x07 0xBB) counting)
      (fun t => t.scratch.byteAt 0x07 == 0xBB && t.scratch.byteAt 0x08 == 0x08 && t.scratch.counter == 0x00) := by decide +kernel
/-- E14. -/
theorem test_page_write_crosses_page_end :
    goesTo (exec (.eePageWrite 0 0x0D [0x11, 0x22, 0x33, 0x44, 0x55]) counting)
      (fun t => [0x0D, 0x0E, 0x0F, 0x08, 0x09, 0x10].map t.scratch.byteAt == [0x11, 0x22, 0x33, 0x44, 0x55, 0x10] &&
        t.scratch.counter == 0x0A) := by decide +kernel
/-- E15. -/
theorem test_page_write_of_ten :
    goesTo (exec (.eePageWrite 0 0x10 [0xD0, 0xD1, 0xD2, 0xD3, 0xD4, 0xD5, 0xD6, 0xD7, 0xD8, 0xD9]) counting)
      (fun t => [0x10, 0x11, 0x12, 0x17].map t.scratch.byteAt == [0xD8, 0xD9, 0xD2, 0xD7] &&
        t.scratch.counter == 0x12) := by decide +kernel
/-- E19. -/
theorem test_write_to_pirom :
    goesTo (exec (.eeWriteToPirom 0 0x05 [0xAA]) counting) (fun t => t.pirom.mem == counting.pirom.mem) := by decide +kernel
/-- E18. -/
theorem test_write_protected :
    goesTo (exec (.eeWriteProtected 0 0x05 [0xAA]) { counting with platform := { counting.platform with smwp := true } })
      (fun t => t.scratch.mem == counting.scratch.mem) := by decide +kernel
/-- E16. -/
theorem test_address_only :
    goesTo (step { counting with inputs := [.packet [.start, .byte 0xA0, .byte 0x30, .stop]] })
      (fun t => t.scratch.counter == 0x30 && t.scratch.mem == counting.scratch.mem) := by decide +kernel
/-- A5: another package's address. -/
theorem test_other_package :
    goesTo (exec (.eeCurrentAddressRead ⟨0b10, false⟩) counting) (fun t => t.answer == [.nack] && t.scratch.counter == 0x20) := by decide +kernel
/-- E20. -/
theorem test_stop_without_nack :
    refusedAs (step { counting with inputs := [.packet [.start, .byte 0xA1, .ack, .stop]] }) .malformedPacket := by decide +kernel
/-- P2, step 3: the part number. -/
theorem test_pirom_header :
    goesTo (exec (.eeSequentialRead ⟨0, true⟩ (some 0x3E) 6) State.reset)
      (fun t => t.answer.drop 3 == [.data 0x38, .data 0x30, .data 0x35, .data 0x34, .data 0x32, .data 0x4B, .data 0x43] &&
        t.pirom.counter == 0x45) := by decide +kernel

/-! ### Steps of the sensor (vectors A6 to A14, T1 to T17, S1 to S19) -/

/-- R143: the six strap settings. -/
theorem test_sensor_addresses :
    [sensorAddress .low false, sensorAddress .low true, sensorAddress .floating false, sensorAddress .floating true,
      sensorAddress .high false, sensorAddress .high true].map (addressByte · 0) =
      [0x30, 0x34, 0x52, 0x56, 0x98, 0x9C] := by decide
/-- T1 to T9. -/
theorem test_sat8 :
    ([0, 25, 127, 130, -1, -55, -128, -140].map sat8 : List Byte) = [0x00, 0x19, 0x7F, 0x7F, 0xFF, 0xC9, 0x80, 0x80] := by decide
/-- T10, T11, T16, T17. -/
theorem test_alarm_conditions :
    [(0x69, 0x69, 0xC9), (0x68, 0x69, 0xC9), (0x80, 0x7F, 0xC9), (0xFF, 0x00, 0x00)].map
      (fun (x : Byte × Byte × Byte) =>
        (highCond { Sensor.reset with temp := x.1, thigh := x.2.1, tlow := x.2.2 },
          lowCond { Sensor.reset with temp := x.1, thigh := x.2.1, tlow := x.2.2 })) =
      [(true, false), (false, false), (false, true), (false, true)] := by decide
/-- P1, step 4. -/
theorem test_rrt :
    goesTo (exec (.rrt sensor52) (sensing fun x => { x with temp := 0x58 })) (fun t => t.answer.getLast? == some (.data 0x58)) := by decide +kernel
/-- S1. -/
theorem test_rc :
    goesTo (exec (.rc sensor52) State.reset)
      (fun t => t.answer == [.ack, .ack, .ack, .data 0x00] && t.sensor.cmdPointer == 0x03 && t.sensor.cmdValid) := by decide +kernel
/-- S2. -/
theorem test_rcr :
    goesTo (exec (.rcr sensor52) State.reset)
      (fun t => t.answer == [.ack, .ack, .ack, .data 0x02] && t.sensor.cmdPointer == 0x04 && t.sensor.cmdValid) := by decide +kernel
/-- S3. -/
theorem test_rrhl :
    goesTo (exec (.rrhl sensor52) State.reset)
      (fun t => t.answer == [.ack, .ack, .ack, .data 0x7F] && t.sensor.cmdPointer == 0x07 && t.sensor.cmdValid) := by decide +kernel
/-- S4. -/
theorem test_rrll :
    goesTo (exec (.rrll sensor52) State.reset)
      (fun t => t.answer == [.ack, .ack, .ack, .data 0xC9] && t.sensor.cmdPointer == 0x08 && t.sensor.cmdValid) := by decide +kernel
/-- S18: the condition persists. -/
theorem test_rs_keeps :
    goesTo (exec (.rs sensor52) (sensing fun x => { x with rhigh := true, temp := 0x6A, thigh := 0x69, alertLatch := true }))
      (fun t => t.sensor.rhigh && t.sensor.alertLatch && t.sensor.cmdPointer == 0x02) := by decide +kernel
/-- S19: the condition is gone; the latch stays. -/
theorem test_rs_clears :
    goesTo (exec (.rs sensor52) (sensing fun x => { x with rhigh := true, temp := 0x64, thigh := 0x69, alertLatch := true }))
      (fun t => !t.sensor.rhigh && t.sensor.alertLatch) := by decide +kernel
/-- S11. -/
theorem test_wc_standby :
    goesTo (exec (.wc sensor52 0x40) (sensing fun x => { x with converting := true, convLeft := 5 }))
      (fun t => !t.sensor.converting && t.sensor.config == 0x40) := by decide +kernel
/-- S14. -/
theorem test_wc_reserved :
    refusedAs (exec (.wc sensor52 0x41) State.reset) .reservedValue := by decide +kernel
/-- S8. -/
theorem test_wcr :
    goesTo (exec (.wcr sensor52 0x07) State.reset) (fun t => t.sensor.convrate == 0x07) := by decide +kernel
/-- S15. -/
theorem test_wcr_reserved :
    refusedAs (exec (.wcr sensor52 0x08) State.reset) .reservedValue := by decide +kernel
/-- S6: no alarm is evaluated. -/
theorem test_wrhl :
    goesTo (exec (.wrhl sensor52 0x69) (sensing fun x => { x with temp := 0x70, cmdValid := true }))
      (fun t => t.sensor.thigh == 0x69 && !t.sensor.cmdValid && !t.sensor.rhigh) := by decide +kernel
/-- R446. -/
theorem test_wrll :
    goesTo (exec (.wrll sensor52 0x10) State.reset) (fun t => t.sensor.tlow == 0x10 && !t.sensor.rlow) := by decide +kernel
/-- S12. -/
theorem test_osht_in_standby :
    goesTo (exec (.osht sensor52) (sensing fun x => { x with config := 0x40 }))
      (fun t => t.sensor.converting && t.sensor.config == 0x40) := by rfl
/-- S13. -/
theorem test_osht_while_converting :
    goesTo (exec (.osht sensor52) (sensing fun x => { x with converting := true, convLeft := 7 }))
      (fun t => t.sensor.convLeft == 7) := by rfl
/-- S9. -/
theorem test_ara_set :
    goesTo (exec .ara (sensing fun x => { x with alertLatch := true }))
      (fun t => t.answer == [.ack, .data 0x53] && !t.sensor.alertLatch) := by decide +kernel
/-- S10. -/
theorem test_ara_clear :
    goesTo (exec .ara State.reset) (fun t => t.answer == [.nack]) := by decide +kernel
/-- S5. -/
theorem test_receive_byte :
    goesTo (exec (.receiveByte sensor52) (sensing fun x => { x with cmdPointer := 0x08, cmdValid := true }))
      (fun t => t.answer == [.ack, .data 0xC9]) := by decide +kernel
/-- S16. -/
theorem test_reserved_command :
    refusedAs (exec (.sensorReservedCommand sensor52 0x05 .read) State.reset) .reservedCommand := by decide +kernel
/-- R455: 4 s, 0.125 s, 16 s; 3.2 s at the fast end. -/
theorem test_conversion_period :
    (nominalPeriod 0x02, nominalPeriod 0x07, nominalPeriod 0x00,
      conversionPeriod { Sensor.reset with rateMill := 1250 }) = (4000000, 125000, 16000000, 3200000) := by decide

/-! ### Steps of the bus requests and the special transactions -/

/-- A transaction of another agent waiting in the queue. -/
def waiting : Txn := newTxn .special (coded 0x00) false 0 none

/-- The queue's newest row after an instruction. -/
def newestRow (t : State) : Option BusRow := t.bus.ioq.getLast?.map (·.row)

/-- R600: the transaction enters the queue. -/
theorem test_interrupt_acknowledge :
    goesTo (exec (.interruptAcknowledge plain) State.reset) (fun t => newestRow t == some .interruptAcknowledge) := by decide +kernel
/-- R600: the transaction enters the queue. -/
theorem test_io_read :
    goesTo (exec (.ioRead plain 0) State.reset) (fun t => newestRow t == some .ioRead) := by decide +kernel
/-- R600: the transaction enters the queue. -/
theorem test_io_write :
    goesTo (exec (.ioWrite plain 0) State.reset) (fun t => newestRow t == some .ioWrite) := by decide +kernel
/-- R600: the transaction enters the queue. -/
theorem test_mem_read_invalidate :
    goesTo (exec (.memReadInvalidate plain 0b01 0b100) State.reset) (fun t => newestRow t == some .memReadInvalidate) := by decide +kernel
/-- R600: the transaction enters the queue. -/
theorem test_mem_read :
    goesTo (exec (.memRead plain 0b01 1 0b011) State.reset) (fun t => newestRow t == some .memRead) := by decide +kernel
/-- R600: the transaction enters the queue. -/
theorem test_mem_write :
    goesTo (exec (.memWrite plain 0b01 1 0) State.reset) (fun t => newestRow t == some .memWrite) := by decide +kernel
/-- R600: the transaction enters the queue. -/
theorem test_mem_read_current :
    goesTo (exec (.memReadCurrent plain 0b01 0b100) State.reset) (fun t => newestRow t == some .memReadCurrent) := by decide +kernel
/-- R600: the transaction enters the queue. -/
theorem test_cache_line_replacement :
    goesTo (exec (.cacheLineReplacement plain 0b01 0) State.reset) (fun t => newestRow t == some .cacheLineReplacement) := by decide +kernel
/-- R164: the code is read next. -/
theorem test_special :
    goesTo (exec (.special (coded 0x03)) State.reset) (fun t => t.special == some (coded 0x03)) := by decide +kernel
/-- P7, step 3. -/
theorem test_purge_tc_of_another :
    goesTo (exec (.purgeTc { plain with b := { plain.b with did := 0x060 } }) State.reset) (fun t => tndOut t.bus) := by rfl
/-- P7: the issuer does not assert TND#. -/
theorem test_purge_tc_own :
    goesTo (exec (.purgeTc plain) State.reset) (fun t => !tndOut t.bus) := by rfl
/-- 2.8: the reply to V1 completes DID 045h. -/
theorem test_deferred_reply_of_v1 :
    goesTo (exec (.deferredReply { plain with addr := (0x045#10).zeroExtend 47 <<< 13 } 0)
        (onBusWith fun b => { b with deferred := [(0x045, waiting)] }))
      (fun t => t.bus.deferred.isEmpty && t.bus.ioq.length == 1) := by decide +kernel
/-- Q23. -/
theorem test_malformed_length :
    refusedAs (exec (.memRead plain 0b01 1 0b101) State.reset) .lenReserved := by decide +kernel
/-- Q24. -/
theorem test_malformed_dsz :
    refusedAs (exec (.memRead { plain with dsz := 0b10 } 0b01 1 0) State.reset) .dszReserved := by decide +kernel
/-- B10: 128 bytes at ...40h. -/
theorem test_misaligned :
    refusedAs (exec (.memRead { plain with addr := 8 } 0b01 1 0b100) State.reset) .misaligned := by decide +kernel
theorem test_reserved_000001 : refusedAs (exec (.reservedReq000001 plain 0) State.reset) .reservedRequest := by decide
theorem test_reserved_001000_01x : refusedAs (exec (.reservedReq00100001x plain 0) State.reset) .reservedRequest := by decide
theorem test_reserved_001001_0xx : refusedAs (exec (.reservedReq0010010xx plain 0) State.reset) .reservedRequest := by decide
theorem test_reserved_001001_11x : refusedAs (exec (.reservedReq00100111x plain 0) State.reset) .reservedRequest := by decide
theorem test_reserved_01100x : refusedAs (exec (.reservedReq01100x plain 0 0) State.reset) .reservedRequest := by decide
theorem test_reserved_0_asz_011 : refusedAs (exec (.reservedReq0Asz011 plain 0b01 0) State.reset) .reservedRequest := by decide
theorem test_reserved_1_asz_100 : refusedAs (exec (.reservedReq1Asz100 plain 0b01 0) State.reset) .reservedRequest := by decide
theorem test_special_nop :
    goesTo (exec (.specialNop plain) (onBusWith fun b => { b with ioq := [waiting] }))
      (fun t => t.bus.ioq.map (·.special) == [some .nop]) := by decide +kernel
theorem test_special_shutdown :
    goesTo (exec (.specialShutdown plain) (onBusWith fun b => { b with ioq := [waiting] }))
      (fun t => t.bus.ioq.map (·.special) == [some .shutdown]) := by decide +kernel
theorem test_special_flush :
    goesTo (exec (.specialFlush plain) (onBusWith fun b => { b with ioq := [waiting] }))
      (fun t => t.bus.ioq.map (·.special) == [some .flush]) := by decide +kernel
theorem test_special_halt :
    goesTo (exec (.specialHalt plain) (onBusWith fun b => { b with ioq := [waiting] }))
      (fun t => t.bus.ioq.map (·.special) == [some .halt]) := by decide +kernel
theorem test_special_sync :
    goesTo (exec (.specialSync plain) (onBusWith fun b => { b with ioq := [waiting] }))
      (fun t => t.bus.ioq.map (·.special) == [some .sync]) := by decide +kernel
theorem test_special_stopgrantack :
    goesTo (exec (.specialStopgrantAck plain) (onBusWith fun b => { b with ioq := [waiting] }))
      (fun t => t.bus.ioq.map (·.special) == [some .stopgrantAck]) := by decide +kernel
theorem test_special_xtprupdate :
    goesTo (exec (.specialXtprUpdate plain) (onBusWith fun b => { b with ioq := [waiting] }))
      (fun t => t.bus.ioq.map (·.special) == [some .xtprUpdate]) := by decide +kernel
theorem test_special_reserved : refusedAs (exec (.specialReserved (coded 0x05)) State.reset) .reservedSpecial := by decide

/-! ### Steps of the core -/

/-- Two lines, the first modified. -/
def twoLines : List CacheLine := [⟨5, true, 7⟩, ⟨6, false, 9⟩]

/-- The kind of the last request handed over. -/
def lastPurpose (t : State) : Option Purpose := t.bus.outQ.getLast?.map (·.purpose)

/-- R661: the modified line is written. -/
theorem test_fc_modified :
    goesTo (exec (.fc 5) (thinking fun c => { c with cache := twoLines }))
      (fun t => t.core.cache.map (·.line) == [6] && t.bus.outQ.map (fun q => laneByte q.data 0) == [7]) := by decide +kernel
/-- R661: an absent line is invalidated elsewhere. -/
theorem test_fc_absent :
    goesTo (exec (.fc 9) (thinking fun c => { c with cache := twoLines }))
      (fun t => t.core.cache.length == 2 && t.bus.outQ.length == 1) := by rfl
/-- W10. -/
theorem test_cpuid :
    goesTo (exec (.cpuid .ipfFeatures) State.reset) (fun t => t.core.cpuidOut == 0x000000006380811B) := by decide +kernel
/-- X5: recognised; it is in service when it is taken. -/
theorem test_eoi_recognises_pending_nmi :
    goesTo (exec .eoi (thinking fun c => { c with nmiInService := true, nmiPending := true }))
      (fun t => !t.core.nmiInService && !t.core.nmiPending && t.core.pending.nmi) := by rfl
/-- X6. -/
theorem test_eoi :
    goesTo (exec .eoi (thinking fun c => { c with nmiInService := true })) (fun t => !t.core.nmiInService) := by rfl
/-- P7, step 1. -/
theorem test_tlb_purge :
    goesTo (exec (.tlbPurge ⟨4, 7⟩) (thinking fun c => { c with tlb := [⟨0, 3⟩, ⟨7, 9⟩] }))
      (fun t => t.core.tlb == [⟨0, 3⟩] && !t.coreReady) := by rfl
/-- R665. -/
theorem test_halt :
    goesTo (exec .halt State.reset) (fun t => t.core.run == .halted && lastPurpose t == some .special) := by rfl
/-- R666. -/
theorem test_shutdown :
    goesTo (exec .shutdown State.reset) (fun t => t.core.run == .shutdown && lastPurpose t == some .special) := by rfl
/-- R667. -/
theorem test_stopgrant_ack :
    goesTo (exec .stopgrantAck State.reset) (fun t => t.bus.outQ.isEmpty) := by rfl
/-- R668: nothing is written back. -/
theorem test_invd :
    goesTo (exec .invd (thinking fun c => { c with cache := twoLines }))
      (fun t => t.core.cache.isEmpty && t.bus.outQ.length == 1) := by rfl
/-- R669. -/
theorem test_wbinvd :
    goesTo (exec .wbinvd (thinking fun c => { c with cache := twoLines }))
      (fun t => t.core.cache.isEmpty && t.bus.outQ.map (·.purpose) == [.writeback, .special] &&
        t.bus.outQ.map (·.barrier) == [false, true]) := by rfl
/-- R670. -/
theorem test_xtpr_update :
    goesTo (exec (.xtprUpdate 5 true) State.reset) (fun t => t.core.xtprValue == 5 && t.core.xtprDisable) := by rfl
/-- R671. -/
theorem test_load :
    goesTo (exec (.loadStoreFetch load64) State.reset) (fun t => lastPurpose t == some .load) := by rfl
/-- R101. -/
theorem test_load_beyond_2_50 :
    exec (.loadStoreFetch { load64 with addr := 0x4000000000000 }) State.reset = .fault .physicalAddress := by rfl

/-! ### Events, arbitration, configuration -/

/-- One clock in which LINT1 is high, after one in which it was. -/
def lint1Rising : Bus → Bus := fun b => { b with lint1 := { level := true, clocks := 1, seen := false } }

/-- X1. -/
theorem test_lint_disabled_after_reset :
    (samplePins { Pins.idle with lint1 := true } (onBusWith lint1Rising)).core.pending.nmi = false := by rfl
/-- X4: at most one is held. -/
theorem test_nmi_lost_in_service :
    (let t := samplePins { Pins.idle with lint1 := true }
        { onBusWith lint1Rising with core := { Core.reset with lint1 := .nmi, nmiInService := true, nmiPending := true } }
     t.core.pending.nmi || !t.core.nmiPending) = false := by rfl
/-- R39. -/
theorem test_nmi_taken :
    ((Core.reset.take .nmi 2).nmiInService, (Core.reset.take .cmci 0).nmiInService) = (true, false) := by rfl
/-- X9. -/
theorem test_pmi_before_nmi :
    nextChoice (thinking fun c => { c with pending := { Pending.none with pmi := true, nmi := true } }) 0 =
      some (.event .pmi 0) := by rfl
/-- R1 to R7. -/
theorem test_arbitration :
    ([(3, 0b1), (3, 0b0110), (3, 0b1000), (1, 0b0100), (1, 0b1001), (0, 0b0011)].map
      fun (x : BitVec 2 × BitVec 4) => newOwner x.1 fun n => x.2.getLsbD n.toNat) = [0, 1, 3, 2, 3, 1] := by decide
/-- G10 to G14. -/
theorem test_identity :
    [0b0001, 0b1000, 0b0100, 0b0010, 0b0000, 0b0011].map identityOf = [some 0, some 1, some 2, some 3, none, none] := by decide
/-- G1 to G8. -/
theorem test_ratio_codes :
    (ratioOk .f900c1p5 0b10110 && ratioOk .f1500c6 0b10000 && ratioOk .f1600c6 0b10000 &&
      !ratioOk .f1000c3 0b10110 && !ratioOk .f1300c3 0b00000) = true := by decide
/-- G15 to G20. -/
theorem test_vid :
    [0b00000, 0b01000, 0b01111, 0b10000, 0b11110, 0b11111].map vidMillivolts =
      [some 1700, some 1500, some 1325, some 1300, some 950, none] := by decide
/-- I2, I3. -/
theorem test_own_did :
    (ownDid 2 5, ownDid 3 31) = (0x045, 0x07F) := by decide
/-- 2.9. -/
theorem test_asz :
    (aszOf (pinsOf 0xFFFFFFFFF), aszOf (pinsOf 0x1000000000), aszOf (pinsOf 0x3FFFFFFFFFFFF)) = (0b01, 0b10, 0b10) := by decide
/-- F2, F6, F10. -/
theorem test_packed_decimal :
    (packedDecimal 4 1000, packedDecimal 3 266, packedDecimal 4 9216) = (0x1000, 0x266, 0x9216) := by decide
/-- K1. -/
theorem test_checksums :
    sectionSum piromImage 0x00 0x0C = 0x86 ∧ piromByte piromImage 0x0D = 0x7A := by decide +kernel
/-- R280, R386. -/
theorem test_unused :
    (unusedReads "SMA1", unusedReads "SMA2", unusedReads "BPRI#", unusedReads "LINT[1,0]") =
      (some .zero, some .floating, some .deasserted, some .deasserted) := by decide
/-- R280: single pins, and pins that are no AGTL+ inputs. -/
theorem test_unused_pins :
    ["BR1#", "LINT0", "ID0#", "A049#", "TCK", "DBSY0#", "TUNER[1]"].map unusedReads =
      [some .deasserted, some .deasserted, some .deasserted, some .deasserted, none, none, none] := by decide +kernel
/-- R385: two other packages. -/
theorem test_neighbours :
    refusedAs (platformCheck true true 150 150 [⟨true, false, .low, .f1000c3, 0, false⟩,
        ⟨true, false, .high, .f1000c3, 0, false⟩] State.reset) .sharedStraps := by rfl
/-- R385, R630. -/
theorem test_neighbour_on_another_smbus :
    goesTo (platformCheck true true 150 150 [⟨false, false, .floating, .f1000c3, 1, true⟩] State.reset)
      (fun t => t.platform.nAgents == 2) := by rfl
/-- R302. -/
theorem test_pin_counts :
    allPins.length = 611 ∧ [PinDirection.input, .both, .output, .blank].map directionCount = [327, 235, 14, 35] := by decide +kernel
/-- R494 to R497, counted in the tables. -/
theorem test_signal_tables :
    [outputSignals, inputSignals, singleDriverSignals, wiredOrSignals].map List.length = [11, 25, 30, 6] := by rfl
/-- R271 to R273. -/
theorem test_core_clock :
    [Sku.f900c1p5, .f1000c3, .f1300c3, .f1400c4, .f1500c6].map (fun k => twiceCoreClock k (ratioOf k)) =
      [1800, 2000, 2600, 2800, 3000] ∧ busBandwidthMb .f1660c9 = 10672 := by decide
/-- R206. -/
theorem test_termination :
    terminationMode Platform.reset = some .onDie ∧ terminationMode { Platform.reset with terma := false } = none := by decide

/-! ### Witnesses: for each statement with hypotheses a state and operands that meet them -/

theorem goesTo_next {o : Host.Outcome State Fault Refusal} {p : State → Bool} (h : goesTo o p = true) :
    ∃ t, o = .next t ∧ p t = true := by
  cases o with
  | next t => exact ⟨t, rfl, h⟩
  | fault => cases h
  | refused => cases h

theorem witness_SmbusPacketsRoundTrip :
    ∃ items, (Instr.eePageWrite 0b11 0xFF [0x01, 0x02]).wf = true ∧
      encode OpenCells.default (.eePageWrite 0b11 0xFF [0x01, 0x02]) = .packet items := ⟨_, by decide, rfl⟩

/-- Another reading of the lost cells that leaves every word one meaning. -/
def otherCells : OpenCells := { OpenCells.default with intackReqbLow := 0b111 }

theorem witness_BusRequestsRoundTrip :
    ∃ a b, OpenCells.default.legal = true ∧ otherCells.legal = true ∧
      (Instr.interruptAcknowledge plain).wf = true ∧ encode otherCells (.interruptAcknowledge plain) = .request a b := 
  ⟨_, _, by decide, by decide, by decide, rfl⟩
theorem witness_DecodedRequestsEncodeBack :
    decode otherCells false (.request ⟨0, 0b001000⟩ ⟨0, 0b001111⟩) = .instr (.interruptAcknowledge plain) ∧
      decode OpenCells.default false (.request ⟨0, 0b001001⟩ ⟨0, 0b001101⟩) = .instr (.purgeTc plain) := by decide
theorem witness_SpecialsAndNamedRoundTrip :
    (Instr.specialReserved (coded 0xFF)).wf = true ∧ (∃ r, encode otherCells (.specialReserved (coded 0xFF)) = .special r) ∧
      Instr.eoi.wf = true ∧ encode otherCells .eoi = .named .eoi := ⟨by decide, ⟨_, rfl⟩, by decide, rfl⟩

/-- The packet of RS to the sensor at 52h. -/
def statusPacket : List HostItem := [.start, .byte 0x52, .byte 0x02, .start, .byte 0x53, .nack, .stop]
/-- The packet of the ARA. -/
def araPacket : List HostItem := [.start, .byte 0x19, .nack, .stop]
/-- Clock a of a Purge TC request is latched, clock b is the next clock. -/
def midRequest : State :=
  { withInput (.clock (clockBPinsOf ⟨0, 0b001101⟩)) with bus := { Bus.reset with latchA := some ⟨0, 0b001001⟩ } }

theorem witness_StepRunsTheDecodedInstruction_packet :
    (withInput (.packet statusPacket)).Next (.packet statusPacket) [] ∧
      decode State.reset.platform.cells State.reset.platform.smwp (.packet statusPacket) = .instr (.rs sensor52) := 
  ⟨⟨rfl, rfl⟩, by decide⟩
theorem witness_StepRunsTheDecodedInstruction_special :
    ({ State.reset with special := some (coded 0x03) } : State).special = some (coded 0x03) := rfl
theorem witness_StepRunsTheDecodedInstruction_clock :
    midRequest.Next (.clock (clockBPinsOf ⟨0, 0b001101⟩)) [] ∧ midRequest.onBus = true ∧
      contention midRequest (clockBPinsOf ⟨0, 0b001101⟩) = false ∧
      (merged midRequest (clockBPinsOf ⟨0, 0b001101⟩)).binit = false ∧
      parityError midRequest (merged midRequest (clockBPinsOf ⟨0, 0b001101⟩)) = false ∧
      midRequest.bus.latchA = some ⟨0, 0b001001⟩ ∧
      decode midRequest.platform.cells midRequest.platform.smwp (.request ⟨0, 0b001001⟩
        { pins := (merged midRequest (clockBPinsOf ⟨0, 0b001101⟩)).a,
          req := (merged midRequest (clockBPinsOf ⟨0, 0b001101⟩)).req }) = .instr (.purgeTc plain) := 
  ⟨⟨rfl, rfl⟩, rfl, rfl, by decide +kernel, by decide +kernel, rfl, by decide +kernel⟩
theorem witness_StepRunsTheDecodedInstruction_core :
    (withInput (.core .eoi)).Next (.core .eoi) [] ∧ Instr.eoi.isCore = true ∧ (withInput (.core .eoi)).coreReady = true := 
  ⟨⟨rfl, rfl⟩, rfl, rfl⟩
/-- A machine on the die of `State.reset`, in the normal mode, is settled. -/
theorem resetDie_settled {s : State} (h : s.platform.dieTemp = min 0 Config.tEtmEntry) (hm : s.thermal.mode = .normal) :
    s.Settled := by
  intro _ _ _
  rw [h, hm]
  refine ⟨?_, fun _ => ⟨fun _ => Int.min_le_right _ _, fun h => nomatch h⟩⟩
  unfold Config.tTrip
  omega

theorem witness_StepKeepsInv :
    (withInput .resetAssert).Inv ∧ ∃ t, step (withInput .resetAssert) = .next t := 
  ⟨⟨by decide +kernel, by decide +kernel, resetDie_settled rfl rfl, fun h => nomatch h⟩, _, rfl⟩
/-- In reset, with the power pod about to switch off. -/
def losingPower : State :=
  { withInput (.power .off) with
    core := Core.inReset 0, bus := { Bus.reset with inReset := true },
    platform := { Platform.reset with powerState := .first, pwrgood := false, pwrgoodLow := true } }
theorem witness_StepKeepsInv_reset :
    losingPower.Inv ∧ losingPower.bus.inReset = true ∧ ∃ t, step losingPower = .next t := by
  refine ⟨⟨by decide +kernel, by decide +kernel, resetDie_settled rfl rfl, fun _ => ?_⟩, rfl, _, rfl⟩
  exact ⟨heldInReset_resetValues State.reset, rfl, rfl, rfl⟩
/-- R779, R812: power lost while RESET# is asserted leaves the caches empty and the LINT pins disabled. -/
theorem test_power_lost_in_reset :
    ∃ t, step losingPower = .next t ∧ t.core.cache = [] ∧ t.core.lint0 = .disabled ∧ t.platform.powerState = .off :=
  ⟨_, rfl, rfl, rfl, rfl⟩
theorem witness_ProtectedBytesNeverChange :
    ∃ t, step { withInput .resetAssert with platform := { Platform.reset with smwp := true } } = .next t := ⟨_, rfl⟩
theorem witness_StepKeepsOwnerLast :
    (onBusWith fun b => { b with owner := some 1, rotatingId := 1 }).OwnerLast ∧
      ∃ t, step (onBusWith fun b => { b with owner := some 1, rotatingId := 1 }) = .next t := 
  ⟨fun _ h => Option.some.inj h, _, rfl⟩
theorem witness_OnlyResetEndsATrip :
    ∃ t u, ({ Thermal.reset with mode := .tripped, thrmtrip := true } : Thermal).mode = .tripped ∧
      step { withInput .resetAssert with thermal := { Thermal.reset with mode := .tripped, thrmtrip := true } } = .next t ∧
      step { State.reset with thermal := { Thermal.reset with mode := .tripped, thrmtrip := true } } = .next u := 
  ⟨_, _, rfl, rfl, rfl⟩
theorem witness_SmbusIsSeparate :
    (withInput (.packet statusPacket)).Next (.packet statusPacket) [] ∧
      ∃ t, step (withInput (.packet statusPacket)) = .next t := by
  obtain ⟨t, h, _⟩ := goesTo_next (o := step (withInput (.packet statusPacket))) (p := fun _ => true) (by decide +kernel)
  exact ⟨⟨rfl, rfl⟩, t, h⟩
theorem witness_NoInstructionWritesTheRegisters :
    ∃ t, exec .eoi State.reset = .next t := ⟨_, rfl⟩
theorem witness_AddressReads :
    selects State.reset (⟨0, true⟩ : EeSel).sma = true := by decide
theorem witness_SequentialRead :
    selects State.reset (⟨0, false⟩ : EeSel).sma = true ∧ (0 : BitVec 7) = (State.reset.eeprom false).counter ∧
      (0x7F : BitVec 7) = (0xFF : Byte).extractLsb' 0 7 := by decide
theorem witness_ByteWrite :
    selects State.reset 0 = true ∧ State.reset.platform.smwp = false ∧ (0x7F : BitVec 7) = (0xFF : Byte).extractLsb' 0 7 := by decide
theorem witness_PageWrite :
    selects State.reset 0 = true ∧ State.reset.platform.smwp = false ∧ (0x0D : BitVec 7) = (0x0D : Byte).extractLsb' 0 7 := by decide
theorem witness_ProtectedWrites :
    selects { State.reset with platform := { Platform.reset with smwp := true } } 0 = true ∧
      ({ State.reset with platform := { Platform.reset with smwp := true } } : State).platform.smwp = true := by decide
theorem witness_UnselectedAndAddressOnlyPackets_unselected :
    selects State.reset (⟨0b10, false⟩ : EeSel).sma = false ∧ sensorSelects State.reset 0b1001100#7 = false ∧
      State.reset.sensor.alertLatch = false ∧
      ({ State.reset with platform := { Platform.reset with smbusPower := false } } : State).platform.smbusPower = false := by decide
theorem witness_UnselectedAndAddressOnlyPackets_addressOnly :
    selects State.reset (⟨0, true⟩ : EeSel).sma = true ∧
      (withInput (.packet (packetWrite (memoryAddress ⟨0, true⟩) [0xFF]))).Next
        (.packet (packetWrite (memoryAddress ⟨0, true⟩) [0xFF])) [] ∧
      (withInput (.packet (packetWrite (memoryAddress ⟨0, true⟩) []))).Next
        (.packet (packetWrite (memoryAddress ⟨0, true⟩) [])) [] := ⟨by decide, ⟨rfl, rfl⟩, rfl, rfl⟩
theorem witness_SensorReads :
    sensorSelects State.reset sensor52 = true := by decide
theorem witness_StatusRead :
    sensorSelects State.reset sensor52 = true := by decide
theorem witness_OneShot :
    sensorSelects State.reset sensor52 = true := by decide
theorem witness_SensorWrites_config :
    sensorSelects State.reset sensor52 = true ∧ (0x00 : Byte) &&& 0xBF = 0 ∧ (0x40 : Byte) &&& 0xBF = 0 ∧
      State.reset.sensor.config = 0x00 ∧ (0x40 : Byte).getLsbD 6 = true ∧
      (sensing fun x => { x with config := 0x40 }).sensor.config.getLsbD 6 = true := by decide
theorem witness_SensorWrites_rate :
    sensorSelects State.reset sensor52 = true ∧ (0x07 : Byte).toNat ≤ 7 := by decide

/-- A sensor whose alert latch is set, beside another alerting sensor. -/
def alerting (rival : Option SmbAddr) : State :=
  { sensing (fun x => { x with alertLatch := true }) with platform := { Platform.reset with araRival := rival } }

theorem witness_AlertResponse_wins :
    (alerting (some 0b0101001#7)).platform.smbusPower = true ∧
      (alerting (some 0b0101001#7)).sensor.alertLatch = true ∧
      sensor52 = sensorAddress (alerting (some 0b0101001#7)).platform.sma2 (alerting (some 0b0101001#7)).platform.sma1 ∧
      ∀ r, (alerting (some 0b0101001#7)).platform.araRival = some r → sensor52.toNat ≤ r.toNat := 
  ⟨rfl, rfl, by decide, fun _ h => by cases h; decide⟩
theorem witness_AlertResponse_loses :
    (alerting (some 0b0011000#7)).platform.smbusPower = true ∧
      (alerting (some 0b0011000#7)).sensor.alertLatch = true ∧
      sensor52 = sensorAddress (alerting (some 0b0011000#7)).platform.sma2 (alerting (some 0b0011000#7)).platform.sma1 ∧
      (alerting (some 0b0011000#7)).platform.araRival = some 0b0011000#7 ∧ (0b0011000#7).toNat < sensor52.toNat := 
  ⟨rfl, rfl, by decide, rfl, by decide⟩
theorem witness_ReceiveByte :
    sensorSelects (sensing fun x => { x with cmdPointer := 0x08, cmdValid := true }) sensor52 = true ∧
      (sensing fun x => { x with cmdPointer := 0x08, cmdValid := true }).sensor.cmdPointer = 0x08 ∧
      (sensing fun x => { x with cmdPointer := 0x02, cmdValid := true }).sensor.cmdPointer = 0x02 ∧
      State.reset.sensor.cmdValid = false := by decide
theorem witness_AlarmBitsClearedOnlyByStatusRead :
    ∃ t, step { sensing (fun x => { x with rhigh := true }) with inputs := [.packet statusPacket] } = .next t ∧
      (sensing fun x => { x with rhigh := true }).sensor.rhigh = true ∧ t.sensor.rhigh = false := by
  obtain ⟨t, h, h2⟩ := goesTo_next
    (o := step { sensing (fun x => { x with rhigh := true }) with inputs := [.packet statusPacket] })
    (p := fun t => !t.sensor.rhigh) (by decide +kernel)
  exact ⟨t, h, rfl, by simpa using h2⟩
theorem witness_AlertLatchClearedOnlyByAra :
    ∃ t, step { alerting none with inputs := [.packet araPacket] } = .next t ∧ thrmalertOut (alerting none) = true ∧
      thrmalertOut t = false := by
  obtain ⟨t, h, h2⟩ := goesTo_next (o := step { alerting none with inputs := [.packet araPacket] })
    (p := fun t => !thrmalertOut t) (by decide +kernel)
  exact ⟨t, h, rfl, by simpa using h2⟩

/-- A conversion that ends exactly when the time that passes ends. -/
def converting : State :=
  { sensing (fun x => { x with converting := true, convLeft := 5 }) with
    inputs := [.sensorTime 5 130200], platform := { Platform.reset with dieTemp := 0 } }

/-- No conversion in progress and the rate timer at `timer`, in auto-convert mode. -/
def waitingToConvert (timer : Nat) : State :=
  { sensing (fun x => { x with config := 0, converting := false, rateTimer := timer }) with inputs := [.sensorTime 5 0] }

/-- R461, D9: an open diode sets OPEN. -/
theorem test_open_diode :
    goesTo (step { converting with sensor := { converting.sensor with openCond := true } })
      (fun t => t.sensor.openFault && !t.sensor.converting) = true := by decide +kernel
/-- R455: the conversion starts when the timer has run out. -/
theorem test_auto_convert :
    goesTo (step (waitingToConvert 5)) (fun t => t.sensor.converting) = true ∧
      goesTo (step (waitingToConvert 6)) (fun t => !t.sensor.converting && t.sensor.rateTimer == 1) = true :=
  ⟨rfl, by decide +kernel⟩
theorem witness_ConversionStartsAndEnds_ends :
    converting.Next (.sensorTime 5 130200) [] ∧ converting.platform.smbusPower = true ∧
      converting.sensor.converting = true ∧ converting.sensor.convLeft ≤ 5 ∧
      (127 : Int) = max (-128) (min 127 ((1000 * converting.platform.dieTemp + 130200 + 500) / 1000)) ∧
      converting.sensor.openCond = false ∧
      ({ converting with sensor := { converting.sensor with openCond := true } } : State).sensor.openCond = true :=
  ⟨⟨rfl, rfl⟩, rfl, rfl, by decide, by decide, rfl, rfl⟩
theorem witness_ConversionStartsAndEnds_starts :
    (waitingToConvert 5).Next (.sensorTime 5 0) [] ∧ (waitingToConvert 5).platform.smbusPower = true ∧
      (waitingToConvert 5).sensor.converting = false ∧ (waitingToConvert 5).sensor.config.getLsbD 6 = false ∧
      ¬ 5 < (waitingToConvert 5).sensor.rateTimer ∧ 5 < (waitingToConvert 6).sensor.rateTimer :=
  ⟨⟨rfl, rfl⟩, rfl, rfl, by decide, by decide, by decide⟩
theorem witness_SmbusPowerUp :
    ({ withInput (.smbusPower true false) with platform := { Platform.reset with smbusPower := false } } : State).Next
        (.smbusPower true false) [] ∧
      ({ withInput (.smbusPower true false) with platform := { Platform.reset with smbusPower := false } } :
        State).platform.smbusPower = false := ⟨⟨rfl, rfl⟩, rfl⟩

/-- A request at the highest 128-byte line of the address space. -/
def topLine : Request := { plain with addr := 0x7FFFFFFFFFF0 }

theorem witness_RequestsEnterTheQueue :
    (Instr.memReadInvalidate topLine 0b10 0b100).wf = true ∧ (Instr.memRead topLine 0b10 1 0b100).wf = true ∧
      (Instr.memWrite topLine 0b10 1 0b000).wf = true ∧ (Instr.memReadCurrent plain 0b01 0b001).wf = true ∧
      (Instr.cacheLineReplacement plain 0b01 0).wf = true ∧ plain.malformed = none := by decide
theorem witness_InterruptAndPurgeObserved :
    plain.malformed = none ∧ plain.isOwn State.reset.bus.arbId = true ∧
      ({ plain with b := { plain.b with did := 0x060 } } : Request).malformed = none ∧
      ({ plain with b := { plain.b with did := 0x060 } } : Request).isOwn State.reset.bus.arbId = false := by decide
/-- A transaction whose requester asserted DPS#. -/
def waitingDps : Txn := { waiting with req := { plain with b := { plain.b with exf := 0b00001 } } }

theorem witness_DeferredCompletion_phase :
    State.reset.bus.idLatch = none ∧
      (onBusWith fun b => { b with idLatch := some 0, deferred := [(0, waitingDps), (1, waiting)] }).bus.idLatch = some 0 ∧
      findDeferred [(0, waitingDps), (1, waiting)] 0 = some waitingDps ∧ waitingDps.req.b.dps = true ∧
      findDeferred [(0, waitingDps), (1, waiting)] 1 = some waiting ∧ waiting.req.b.dps = false ∧
      findDeferred [(0, waiting)] 2 = none := ⟨rfl, rfl, rfl, rfl, rfl, rfl, rfl⟩
theorem witness_DeferredCompletion :
    plain.malformedAttr = none ∧ findDeferred [(0, waiting)] (plain.addr.extractLsb' 13 10) = some waiting ∧
      findDeferred State.reset.bus.deferred (plain.addr.extractLsb' 13 10) = none ∧
      (([(0, waiting)] : List (Did × Txn)).map (·.1)).Nodup := ⟨by decide, rfl, rfl, by decide⟩
/-- Another agent's read of line 5, supplied by this processor, at the end of its data, with the flush of the line and the
write-back of line 7 still to be issued. -/
def flushTaken : State :=
  onBusWith fun b => { b with
    ioq := [{ newTxn .memRead { plain with addr := linePins 5 } false 0b100 none with
      snoop := some { hit := false, hitm := true, defer := false, gseq := false }, supplies := true,
      response := some .implicitWriteback, got := 8 }],
    outQ := [outReq (writebackInstr 5 true) .flush, outReq (writebackInstr 7 false) .writeback] }

/-- R661: the flush still reaches the other caches, as an invalidate with FCL#; another line's write-back stays. -/
theorem test_flush_of_a_supplied_line :
    (retire flushTaken).bus.outQ.map (·.instr) = [flushInvalidateInstr 5, writebackInstr 7 false] := by decide +kernel
/-- R626: a deferred phase of a transaction that came without DPS# does nothing. -/
theorem test_deferred_phase_without_dps :
    (matchDeferred Pins.idle { Bus.reset with idLatch := some 1, deferred := [(1, waiting)] }).ioq = [] := by decide +kernel

theorem witness_FlushCache_supplied :
    ∃ x : Txn, flushTaken.bus.ioq = [x] ∧ x.supplies = true ∧ x.response = some .implicitWriteback ∧
      x.totalWords ≤ x.got ∧ outReq (writebackInstr 5 true) .flush ∈ flushTaken.bus.outQ ∧
      pendingWriteback [outReq (writebackInstr 5 true) .flush] (lineOf x.req.addr) ≠ none ∧
      pendingWriteback [outReq (writebackInstr 7 false) .writeback] (lineOf x.req.addr) = none :=
  ⟨_, rfl, rfl, rfl, by decide, .head _, by decide, by decide⟩
theorem witness_MalformedRequestsStop :
    aszLegal plain.addr 0b00 = false ∧ aszLegal plain.addr 0b01 = true ∧ attrLegal 0b0001 = false ∧
      attrLegal plain.b.attr = true ∧ dszLegal plain.b.did 0b00 = false ∧ dszLegal plain.b.did plain.dsz = true ∧
      4 < (0b101#3).toNat ∧ (0b100#3).toNat ≤ 4 ∧ (8#47).toNat % 2 ^ (0b100#3).toNat ≠ 0 := by decide
theorem witness_ReservedIsRefused :
    sensorSelects State.reset sensor52 = true ∧ (0x01 : Byte) &&& 0xBF ≠ 0 ∧ 7 < (0x08 : Byte).toNat := by decide
theorem witness_SpecialsAreKnownByTheirKind :
    (onBusWith fun b => { b with ioq := [waiting] }).bus.ioq = [] ++ [waiting] := rfl
theorem witness_LoadStoreFetch :
    (0b011#3, 64) = (load64.len.code, 64) ∧ load64.addr.toNat < 2 ^ 50 ∧ load64.addr.toNat % 64 = 0 ∧
      (0x3FFFFFFFFFFFF : BitVec 64).toNat < 2 ^ 50 ∧ (0x3FFFFFFFFFFFF : BitVec 64).toNat % 64 ≠ 0 ∧
      2 ^ 50 ≤ (0x4000000000000 : BitVec 64).toNat ∧ (0b000#3, 1) = (XferLen.partial8.code, 1) ∧
      1 < ((List.range 8).filter (0b00001100#8).getLsbD).length := by decide
/-- R105: two bytes on lanes 2 and 3 of the upper half, in the core's byte order. -/
theorem test_big_endian_partial :
    laneData .big 1 0 0b00001100 0xAABB0000 = 0xBBAA0000 <<< 64 ∧
      laneValue .big 1 0 0b00001100 (0xBBAA0000 <<< 64) = 0xAABB0000 := by decide +kernel
theorem witness_TakeAndReturn :
    (Core.reset.take .nmi 2).saved = (Core.reset.take .nmi 2).saved := rfl

/-- The core ready, with these events pending, about to take one. -/
def pendingState (p : Pending) : State :=
  { withInput .coreInterrupt with core := { Core.reset with pending := p } }

theorem witness_HighestEventIsTaken :
    (pendingState { Pending.none with nmi := true }).Next .coreInterrupt [] ∧
      (pendingState { Pending.none with nmi := true }).coreReady = true ∧
      (pendingState { Pending.none with mca := true }).core.pending.mca = true ∧
      (pendingState { Pending.none with pmi := true }).core.pending.pmi = true ∧
      (pendingState { Pending.none with init := true }).core.pending.init = true ∧
      (pendingState { Pending.none with cmci := 1 }).core.pending.cmci = 1 ∧
      ({ pendingState Pending.none with core := { Core.reset with intMasked := true } } : State).core.intMasked = true := 
  ⟨⟨rfl, rfl⟩, rfl, rfl, rfl, rfl, rfl, rfl⟩

/-- The core ready and INT not masked, with the vectors `ext` waiting and `local0` and `local1` as said, in the handlers of
`saved`. -/
def maskableState (ext : List Byte) (local0 local1 : Bool) (saved : List Saved) : State :=
  { withInput .coreInterrupt with
    core := { Core.reset with intMasked := false, pending := { Pending.none with ext, local0, local1 }, saved } }
/-- The handler of the interrupt with vector 0x50. -/
def handler50 : Saved := { pc := 0, intMasked := false, event := .ext, vector := 0x50 }

/-- R711, R731: the greatest vector is handed to the handler, the other one waits; in the handler of a greater one it goes
on waiting. -/
theorem test_greatest_vector :
    goesTo (step (maskableState [0x40, 0x51] false false []))
      (fun t => t.core.pending.ext == [0x40] && t.core.saved.map (·.vector) == [0x51]) = true ∧
      goesTo (step (maskableState [0x40] false false [handler50]))
        (fun t => t.core.pending.ext == [0x40] && t.core.saved == [handler50]) = true := by decide +kernel
theorem witness_HighestEventIsTaken_ext :
    (maskableState [0x40, 0x51] false false [handler50]).Next .coreInterrupt [] ∧
      (maskableState [0x40, 0x51] false false [handler50]).coreReady = true ∧
      (maskableState [0x40, 0x51] false false []).core.intMasked = false ∧
      (maskableState [0x40, 0x51] false false []).core.pending.cmci = 0 ∧
      (0x51 : Byte) ∈ (maskableState [0x40, 0x51] false false []).core.pending.ext ∧
      (∀ w ∈ (maskableState [0x40, 0x51] false false []).core.pending.ext, w.toNat ≤ (0x51 : Byte).toNat) ∧
      (maskableState [0x40, 0x51] false false []).core.saved = [] ∧ handler50.event = .ext ∧
      handler50.vector.toNat < (0x51 : Byte).toNat :=
  ⟨⟨rfl, rfl⟩, rfl, rfl, rfl, by decide, by decide, rfl, rfl, by decide⟩
theorem witness_HighestEventIsTaken_local :
    (maskableState [] true true []).Next .coreInterrupt [] ∧ (maskableState [] true true []).coreReady = true ∧
      (maskableState [] true true []).core.pending.ext = [] ∧ (maskableState [] true true []).core.lint0 ≠ .int ∧
      (maskableState [] true true []).core.saved = [] ∧ (maskableState [] true true []).core.pending.local0 = true ∧
      (maskableState [] false true []).core.pending.local0 = false ∧
      (maskableState [] false true []).core.pending.local1 = true :=
  ⟨⟨rfl, rfl⟩, rfl, rfl, by decide, rfl, rfl, rfl, rfl⟩

/-- NMI is configured on LINT1, and LINT1 was high for one clock. -/
def nmiState (inService : Bool) (run : RunState) : State :=
  { onBusWith lint1Rising with core := { Core.reset with lint1 := .nmi, nmiInService := inService, run } }
/-- LINT1 high, or low. -/
def lint1Pins (level : Bool) : Pins := { Pins.idle with lint1 := level }

theorem witness_NmiEdge :
    (nmiState false .halted).core.lint1 = .nmi ∧ (nmiState false .halted).core.lint0 = .disabled ∧
      (nmiState false .halted).bus.pmi.rose (samplePins (lint1Pins true) (nmiState false .halted)).bus.pmi = false ∧
      (nmiState false .halted).bus.init.rose (samplePins (lint1Pins true) (nmiState false .halted)).bus.init = false ∧
      (nmiState false .halted).bus.lint0.rose (samplePins (lint1Pins true) (nmiState false .halted)).bus.lint0 = false ∧
      (nmiState false .halted).bus.lint1.rose (samplePins (lint1Pins true) (nmiState false .halted)).bus.lint1 = true ∧
      (nmiState true .running).bus.lint1.rose (samplePins (lint1Pins true) (nmiState true .running)).bus.lint1 = true ∧
      (nmiState false .running).bus.lint1.rose (samplePins (lint1Pins false) (nmiState false .running)).bus.lint1 =
        false ∧ State.reset.core.lint1 = .disabled := ⟨rfl, rfl, rfl, rfl, rfl, rfl, rfl, rfl, rfl⟩

/-- INIT# was asserted for one clock. -/
def initState (run : RunState) : State :=
  { onBusWith (fun b => { b with init := { level := true, clocks := 1, seen := false } }) with
    core := { Core.reset with run } }

theorem witness_InitAndPmiEdge_pmi :
    (initState .halted).bus.init.rose (samplePins { Pins.idle with pmi := true, shortSeen := 0b1000 } (initState .halted)).bus.init = false ∧
      (initState .halted).bus.pmi.rose (samplePins { Pins.idle with pmi := true, shortSeen := 0b1000 } (initState .halted)).bus.pmi = true ∧
      (initState .halted).core.run = .halted ∧ (initState .shutdown).core.run ≠ .halted := ⟨rfl, rfl, rfl, by decide⟩
theorem witness_InitAndPmiEdge :
    (initState .halted).bus.init.rose (samplePins { Pins.idle with init := true } (initState .halted)).bus.init = true ∧
      (initState .halted).bus.pmi.rose (samplePins { Pins.idle with init := true } (initState .halted)).bus.pmi = false ∧
      (initState .halted).core.lint0 = .disabled ∧ (initState .halted).core.lint1 = .disabled ∧
      (initState .halted).core.run = .halted ∧ (initState .stopped).core.run = .stopped := ⟨rfl, rfl, rfl, rfl, rfl, rfl⟩

/-- The core waits for a TLB purge, at stage `w`, with `inputs` to come. -/
def purging (w : CoreWait) (inputs : List Input) (f : Bus → Bus) : State :=
  { State.reset with core := { Core.reset with wait := w }, inputs, bus := f Bus.reset }
/-- The Purge TC of this processor, answered. -/
def ownPurge : Txn :=
  { newTxn .purgeTc plain false 0 (some (outReq (.purgeTc plain) .purge)) with
    snoop := some { hit := false, hitm := false, defer := false, gseq := false }, response := some .normal }

theorem witness_TlbPurge_completes :
    (purging .purgeBus [] fun b => { b with ioq := [ownPurge] }).bus.ioq = [ownPurge] ∧ ownPurge.row = .purgeTc ∧
      ownPurge.src = some (outReq (.purgeTc plain) .purge) ∧ (outReq (.purgeTc plain) .purge).purpose = .purge ∧
      ownPurge.response = some .normal ∧ ownPurge.dataDone = true := ⟨rfl, rfl, rfl, rfl, rfl, rfl⟩
theorem witness_TlbPurge_ends :
    ∃ t, step (purging .purgeTnd [.clock Pins.idle] id) = .next t ∧ t.coreReady = true ∧
      (merged (purging .purgeTnd [.clock Pins.idle] id) Pins.idle).tnd = false := ⟨_, rfl, by decide +kernel, rfl⟩
theorem witness_TlbPurge_done :
    (purging .none [.purgeDone] fun b => { b with tlbPurging := [⟨0, 1⟩] }).Next .purgeDone [] ∧
      (purging .none [.purgeDone] fun b => { b with tlbPurging := [⟨0, 1⟩] }).bus.tlbPurging = [⟨0, 1⟩] ∧
      (purging .none [.purgeDone] fun b => { b with tlbPurging := [⟨0, 1⟩] }).onBus = true :=
  ⟨⟨rfl, rfl⟩, rfl, rfl⟩

/-- A purge of another processor is under way, and PWRGOOD falls outside RESET#. -/
def heldOff : State :=
  { purging .none [.purgeDone] fun b => { b with tlbPurging := [⟨0, 1⟩] } with
    platform := { Platform.reset with pwrgood := false, pwrgoodLow := true } }

theorem witness_TlbPurge_heldOff :
    heldOff.Next .purgeDone [] ∧ heldOff.bus.tlbPurging = [⟨0, 1⟩] ∧ heldOff.onBus = false := ⟨⟨rfl, rfl⟩, rfl, rfl⟩
/-- R771: the purge stands still, and TND# with it. -/
theorem test_pwrgood_holds_purge : (purgeDone heldOff).bus.tlbPurging = [⟨0, 1⟩] ∧ tndOut (purgeDone heldOff).bus = true :=
  ⟨rfl, rfl⟩

/-- INT stands on LINT0, unmasked, with the core outside every handler. -/
def intState : State :=
  { withInput .coreInterrupt with
    core := { Core.reset with lint0 := .int, intMasked := false },
    bus := { Bus.reset with lint0 := { level := true, clocks := 2, seen := true } } }
/-- The Interrupt Acknowledge of this processor, its data arrived. -/
def intAcked : Txn :=
  { newTxn .interruptAcknowledge plain false 0 (some (outReq (.interruptAcknowledge plain) .intAck)) with
    snoop := some { hit := false, hitm := false, defer := false, gseq := false }, response := some .normal, got := 1,
    buf := 0x51 }

theorem witness_IntAsksForItsVector_asks :
    intState.Next .coreInterrupt [] ∧ intState.coreReady = true ∧ intState.core.pending = Pending.none ∧
      intState.core.lint0 = .int ∧ intState.bus.lint0.seen = true ∧ intState.core.intMasked = false ∧
      intState.core.saved = [] := 
  ⟨⟨rfl, rfl⟩, rfl, rfl, rfl, rfl, rfl, rfl⟩
theorem witness_IntAsksForItsVector_takes :
    (onBusWith fun b => { b with ioq := [intAcked] }).bus.ioq = [intAcked] ∧ intAcked.row = .interruptAcknowledge ∧
      intAcked.src = some (outReq (.interruptAcknowledge plain) .intAck) ∧ intAcked.response = some .normal ∧
      intAcked.hitm = false ∧ intAcked.dataDone = true ∧ laneByte intAcked.buf 0 = 0x51 := 
  ⟨rfl, rfl, rfl, rfl, rfl, by decide, by decide +kernel⟩

/-- BERR# is asserted by another agent, or ADS# with a wrong parity, and this processor may drive BERR#. -/
def berrState (p : Pins) : State :=
  { withInput (.clock p) with
    bus := { Bus.reset with poc := { ratio := 10, opts := { PocOptions.reset with berrOnBus := true, berrSample := true } } } }
/-- A response with the wrong parity. -/
def badParity : Pins := { Pins.idle with rsp := true }

theorem witness_BerrAndMachineCheck_sampled :
    ∃ t, (berrState { Pins.idle with berr := true }).Next (.clock { Pins.idle with berr := true }) [] ∧
      (berrState { Pins.idle with berr := true }).onBus = true ∧
      step (berrState { Pins.idle with berr := true }) = .next t ∧ t.core.pending.mca = true := by
  obtain ⟨t, h, h2⟩ := goesTo_next (o := step (berrState { Pins.idle with berr := true }))
    (p := fun t => t.core.pending.mca) (by rfl)
  exact ⟨t, ⟨rfl, rfl⟩, rfl, h, h2⟩
theorem witness_BerrAndMachineCheck_driven :
    (berrState badParity).Next (.clock badParity) [] ∧ (berrState badParity).onBus = true ∧
      contention (berrState badParity) badParity = false ∧ (merged (berrState badParity) badParity).binit = false ∧
      (berrState badParity).bus.latchA = none ∧
      parityError (berrState badParity) (merged (berrState badParity) badParity) = true ∧
      (berrState badParity).bus.poc.opts.berrOnBus = true := 
  ⟨⟨rfl, rfl⟩, rfl, rfl, rfl, rfl, rfl, rfl⟩
theorem witness_BerrAndMachineCheck_noError :
    parityError (berrState Pins.idle) (merged (berrState Pins.idle) Pins.idle) = false ∧
      contention (berrState Pins.idle) Pins.idle = false ∧ (berrState Pins.idle).bus.latchA = none ∧
      Pins.idle.drdy = false := ⟨rfl, rfl, rfl, rfl⟩
theorem witness_BerrAndMachineCheck_internal :
    (withInput (.coreAct (.internalError false))).Next (.coreAct (.internalError false)) [] ∧
      (withInput (.coreAct (.internalError false))).onBus = true ∧
      isRequester { Bus.reset with issuing := [outReq (.purgeTc plain) .purge] } = true := ⟨⟨rfl, rfl⟩, rfl, rfl⟩
theorem witness_Arbitration_parked :
    ({ Bus.reset with owner := some 0, breqOut := true } : Bus).owner = some 0 ∧
      requestOf { Bus.reset with owner := some 0, breqOut := true } 0 0 = true := by decide
theorem witness_Arbitration_idle :
    ∀ n, requestOf Bus.reset 0 n = false := by decide
theorem witness_Arbitration_event :
    (∀ o, Bus.reset.owner = some o → requestOf Bus.reset 0b110 o = false) ∧
      ∃ n, requestOf Bus.reset 0b110 n = true := ⟨(fun _ h => nomatch h), 3, by decide⟩

/-- BINIT# asserted with its observation enabled. -/
def binitState : State :=
  { withInput (.clock { Pins.idle with binit := true }) with
    bus := { Bus.reset with poc := { ratio := 10, opts := { PocOptions.reset with binitObserve := true } } } }

theorem witness_BusInitialisation :
    binitState.Next (.clock { Pins.idle with binit := true }) [] ∧ binitState.onBus = true ∧
      contention binitState { Pins.idle with binit := true } = false ∧
      ({ Pins.idle with binit := true } : Pins).binit = true ∧ binitState.bus.poc.opts.binitObserve = true := 
  ⟨⟨rfl, rfl⟩, rfl, rfl, rfl, rfl⟩

/-- A data read of line 5 by the processor with ID 3, waiting for its snoop result. -/
def otherRead : Txn :=
  newTxn .memRead { plain with addr := 80, b := { plain.b with did := 0x060 } } true 0b100 none
/-- This processor holds line 5 as `modified` says. -/
def snoopState (modified : Bool) : State :=
  { onBusWith (fun b => { b with ioq := [otherRead] }) with core := { Core.reset with cache := [⟨5, modified, 7⟩] } }

/-- R119, R623: the held line is what is supplied. -/
theorem test_supplied_line :
    (snoopPhase { Pins.idle with snoopPhase := true, hitm := true } (snoopState true)).bus.ioq.map (·.wbuf) = [7] := by rfl
/-- R777, D41. -/
theorem test_configuration_window :
    (({ Bus.reset with configClocks := 3 } : Bus).arbitrateClock 0b001).owner = none := by rfl
theorem witness_SnoopResults :
    snoopHead (snoopState true).bus = some otherRead ∧ otherRead.req.isOwn (snoopState true).bus.arbId = false ∧
      otherRead.row = .memRead ∧ findLine (snoopState true).core.cache (lineOf otherRead.req.addr) = some ⟨5, true, 7⟩ ∧
      ({ Pins.idle with snoopPhase := true, hit := true, hitm := true } : Pins).snoopPhase = true ∧
      hitmOut (snoopState true) = true ∧ hitOut (snoopState false) = true ∧
      suppliedLine (snoopState true) = some 7 := ⟨rfl, rfl, rfl, rfl, rfl, rfl, rfl, rfl⟩

/-- A deferrable data read handed over. -/
def ownRead : OutReq := outReq load64.image .load
/-- WBINVD's Sync. -/
def ownSync : OutReq := { specialOut 0 0x04 with barrier := true }
/-- This processor owns the bus and may issue the first or the second of two requests. -/
def issuingState : State :=
  onBusWith fun b =>
    { b with owner := some 0, breqOut := true, sinceAds := Config.adsMinSpacing, outQ := [ownSync, ownRead] }
/-- A clock in which the environment names the second request handed over. -/
def pickSecond : Pins := { Pins.idle with pick := 1 }
theorem issuingState_issues : mayIssue pickSecond issuingState.bus = true := by
  simp [mayIssue, issuingState, onBusWith, pickSecond, Pins.idle, State.reset, Bus.reset]
/-- R669: a Sync waits for a write-back before it or on the bus, and for no other own request. -/
theorem test_sync_waits :
    barrierOk Bus.reset [outReq (writebackInstr 7 false) .writeback] ownSync = false ∧
      barrierOk { Bus.reset with issuing := [outReq (writebackInstr 7 false) .writeback] } [] ownSync = false ∧
      barrierOk { Bus.reset with ioq := [ownPurge] } [ownRead] ownSync = true := ⟨rfl, rfl, rfl⟩

theorem witness_TransactionIdsAreUnique :
    ∃ (u : Request) (wb : ClockWord), issuingState.bus.nextB = none ∧ issuingState.bus.outQ[pickSecond.pick]? = some ownRead ∧
      ownRead.instr.request = some u ∧ u.b.den = true ∧ (issueStep pickSecond issuingState).bus.nextB = some wb := by
  have h : (issueStep pickSecond issuingState).bus.nextB.isSome = true := by
    unfold issueStep
    rw [show issuingState.bus.nextB = none from rfl,
      show issuingState.bus.outQ[pickSecond.pick]? = some ownRead from rfl]
    simp only [issuingState_issues]
    rfl
  obtain ⟨wb, hw⟩ := Option.isSome_iff_exists.mp h
  exact ⟨load64.request, wb, rfl, rfl, rfl, by decide, hw⟩
theorem witness_OwnRequestsAreIssued_starts :
    ∃ u : Request, issuingState.bus.nextB = none ∧ issuingState.bus.outQ = [ownSync] ++ ownRead :: [] ∧
      pickSecond.pick = [ownSync].length ∧ ownRead.instr.request = some u ∧ ownRead.barrier = false ∧ issuingState.bus.owner = some issuingState.bus.arbId ∧ issuingState.bus.breqOut = true ∧
      pickSecond.bpri = false ∧ pickSecond.bnr = false ∧ pickSecond.ads = false ∧ pickSecond.holdIssue = false ∧
      issuingState.bus.configClocks = 0 ∧ Config.adsMinSpacing ≤ issuingState.bus.sinceAds ∧
      freeTid issuingState.bus ≠ none := 
  ⟨_, rfl, rfl, rfl, rfl, rfl, rfl, rfl, rfl, rfl, rfl, rfl, rfl, Nat.le_refl _, fun h => nomatch h⟩
theorem witness_OwnRequestsAreIssued_barrier :
    ∃ w : OutReq, (onBusWith fun b => { b with outQ := [w, ownSync] }).bus.outQ = [w] ++ ownSync :: [] ∧
      pickSecond.pick = [w].length ∧ (onBusWith fun b => { b with outQ := [w, ownSync] }).bus.nextB = none ∧
      ownSync.barrier = true ∧ w ∈ [w] ∧ w.purpose = .writeback ∧ ∃ u, ownSync.instr.request = some u :=
  ⟨outReq (writebackInstr 7 false) .writeback, rfl, rfl, rfl, rfl, List.mem_cons_self, rfl, _, rfl⟩
/-- A Sync that need wait for nothing. -/
theorem witness_OwnRequestsAreIssued_sync :
    issuingState.bus.outQ = [] ++ ownSync :: [ownRead] ∧ Pins.idle.pick = ([] : List OutReq).length ∧
      ∀ w ∈ ([] : List OutReq) ++ issuingState.bus.issuing ++ issuingState.bus.ioq.filterMap (·.src) ++
        issuingState.bus.deferred.filterMap (·.2.src), w.purpose ≠ .writeback := ⟨rfl, rfl, fun _ h => nomatch h⟩
theorem witness_OwnRequestsAreIssued_none :
    State.reset.bus.nextB = none ∧ State.reset.bus.outQ.length ≤ Pins.idle.pick := ⟨rfl, Nat.le_refl _⟩
theorem witness_OwnRequestsAreIssued_clockB :
    (onBusWith fun b => { b with nextB := some ⟨0, 0b001000⟩ }).bus.nextB = some ⟨0, 0b001000⟩ := rfl

/-- A transaction with its snoop result and, maybe, its response. -/
def snooped (t : Txn) (r : Option RespKind) : Txn :=
  { t with snoop := some { hit := false, hitm := false, defer := false, gseq := false }, response := r }
/-- A write of this processor of 64 bytes, about to drive its data. -/
def ownWrite (lead : Bool) : Txn :=
  { snooped (newTxn .memWrite plain false 0b011 (some (outReq (.memWrite plain 0b01 0 0b011) .store))) (some .normal) with
    trdy := true, lead, got := if lead then 2 else 0 }
/-- A clock with DRDY# and two words. -/
def drdyPins : Pins := { Pins.idle with drdy := true, d := some (1, 2) }

theorem witness_ResponseDataAndRetirement_response :
    ∃ k, (onBusWith fun b => { b with ioq := [] ++ snooped otherRead none :: [] }).bus.ioq = [] ++ snooped otherRead none :: [] ∧
      (snooped otherRead none).snoop.isSome = true ∧ (snooped otherRead none).response = none ∧ responseKind 1 = some k := 
  ⟨_, rfl, rfl, rfl, rfl⟩
theorem witness_ResponseDataAndRetirement_write :
    (ownWrite false).row = .memWrite ∧ (ownWrite true).hitm = false ∧ (ownWrite true).response = some .normal ∧
      (ownWrite true).len.toNat = 3 ∧ (ownWrite true).got = 2 ∧ (ownWrite true).trdy = true ∧ (ownWrite false).lead = false ∧
      (ownWrite true).lead = true ∧ Pins.idle.dbsy = false ∧ Pins.idle.sbsy = false ∧ Pins.idle.holdData = false ∧
      { Pins.idle with sbsy := true }.sbsy = true ∧ { ownWrite false with trdy := false }.trdy = false := by decide
theorem witness_ResponseDataAndRetirement_read :
    (snooped otherRead (some .normal)).row = .memRead ∧ (snooped otherRead (some .normal)).hitm = false ∧
      (snooped otherRead (some .normal)).bilLine = false ∧ (snooped otherRead (some .normal)).len.toNat = 4 ∧
      (snooped otherRead (some .normal)).got < 2 ^ (4 - 1) ∧ drdyPins.drdy = true ∧ drdyPins.d = some (1, 2) := by decide
/-- A Bus Invalidate Line of another agent, answered with a line or without. -/
def bil (line : Bool) : Txn :=
  { snooped (newTxn .memReadInvalidate plain false 0 none) (some .normal) with bilLine := line }
/-- R106, R625, vector B5: a partial transfer of no byte takes one data clock. -/
theorem test_bil_data_clock :
    (bil false).dataDone = false ∧ (dataStep State.reset drdyPins (bil false) PinsOut.idle).1.dataDone = true ∧
      (bil true).totalWords = 8 := ⟨rfl, rfl, rfl⟩
theorem witness_ResponseDataAndRetirement_bil :
    (bil false).row.isRead = true ∧ (bil false).hitm = false ∧ (bil false).response = some .normal ∧
      (bil false).bilLine = false ∧ (bil false).len.toNat ≤ 1 ∧ (bil false).got < 1 ∧ (bil true).isBil = true ∧
      (bil true).bilLine = true ∧ (bil true).got < 8 ∧ drdyPins.drdy = true ∧ drdyPins.d = some (1, 2) := by decide
/-- An uncorrectable error in the third protected word is found by the receiver, and by no other agent (R721, log 20). -/
def eccState : State :=
  onBusWith fun b => { b with poc := { b.poc with opts := { b.poc.opts with eccCheck := true, berrOnBus := true } } }
/-- A read of this processor whose data arrives. -/
def ownReading : Txn :=
  snooped (newTxn .memRead plain true 0b100 (some (outReq load64.image .load))) (some .normal)
theorem test_ecc :
    (dataStep eccState { drdyPins with ecc := #v[.ok, .ok, .uncorrectable, .ok] } ownReading PinsOut.idle).2.berr = true ∧
      (dataStep eccState { drdyPins with ecc := #v[.ok, .ok, .uncorrectable, .ok] }
        (snooped otherRead (some .normal)) PinsOut.idle).2.berr = false ∧
      (dataStep eccState { drdyPins with ecc := #v[.ok, .ok, .single, .ok] } ownReading PinsOut.idle).2.berr =
        false := ⟨rfl, rfl, rfl⟩
theorem witness_BerrAndMachineCheck_ecc :
    ownReading.row = .memRead ∧ ownReading.src = some (outReq load64.image .load) ∧ ownReading.hitm = false ∧
      ownReading.response = some .normal ∧ ownReading.bilLine = false ∧ ownReading.len.toNat = 4 ∧
      ownReading.got < 2 ^ (4 - 1) ∧ drdyPins.drdy = true := ⟨rfl, rfl, rfl, rfl, rfl, rfl, by decide, rfl⟩

/-- A data read of another agent whose snoop result has HITM#; `supplies`: this processor has the line, all its words 9. -/
def hitmRead (supplies : Bool) : Txn :=
  { otherRead with snoop := some { hit := false, hitm := true, defer := false, gseq := false },
                   response := some .implicitWriteback, supplies, trdy := true, lead := true, got := 6,
                   wbuf := 9 <<< 768 }
/-- R119, R625: the seventh word of the supplied line is driven in the last clock. -/
theorem test_implicit_writeback :
    (dataStep State.reset Pins.idle (hitmRead true) PinsOut.idle).2.d0 = 9 ∧
      (dataStep State.reset Pins.idle (hitmRead true) PinsOut.idle).2.sbsy = false := by decide +kernel
/-- R110: HITM# at an I/O access brings no line (log 16). -/
theorem test_hitm_io : (Txn.hitm { hitmRead true with row := .ioRead }) = false := rfl
theorem witness_ResponseDataAndRetirement_implicit :
    (hitmRead true).hitm = true ∧ (hitmRead true).response = some .implicitWriteback ∧ (hitmRead true).got + 2 ≤ 8 ∧
      (hitmRead true).supplies = true ∧ (hitmRead true).trdy = true ∧ (hitmRead true).lead = true ∧
      { hitmRead true with trdy := false }.trdy = false ∧ { hitmRead true with lead := false }.lead = false ∧
      (hitmRead false).hitm = true ∧ (hitmRead false).supplies = false ∧ drdyPins.d = some (1, 2) := by decide
theorem witness_ResponseDataAndRetirement_retire :
    ({ snooped otherRead (some .normal) with got := 7 } : Txn).got < ({ snooped otherRead (some .normal) with got := 7 } : Txn).totalWords ∧
      ({ snooped otherRead (some .normal) with got := 8 } : Txn).totalWords ≤ 8 ∧
      (snooped (ownWrite false) (some .retry)).response = some .retry ∧
      (snooped otherRead (some .deferred)).response = some .deferred := by decide

/-- Rows and purposes for which the retirement's clauses on caches and inbox speak. -/
theorem witness_ResponseDataAndRetirement_caches :
    ({ snooped otherRead (some .normal) with got := 8, supplies := true } : Txn).supplies = true ∧
      (snooped otherRead (some .normal)).src = none ∧ (snooped otherRead (some .normal)).req.b.fcl = false ∧
      (snooped (newTxn .memReadInvalidate plain false 0 none) (some .normal)).snooped = true ∧
      (snooped (newTxn .memWrite plain false 0 none) (some .normal)).snooped = false ∧
      (snooped (newTxn .memRead plain true 0 (some (outReq load64.image .load))) (some .normal)).src =
        some (outReq load64.image .load) ∧ (outReq load64.image .load).purpose = .load ∧
      BusRow.memRead.isRead = true ∧ BusRow.memWrite.isRead = false := ⟨rfl, rfl, rfl, rfl, rfl, rfl, rfl, rfl, rfl⟩

/-- A Memory Write of another processor, of length code `len`, at address `8 * addr`. -/
def otherWrite (addr : AddrPins) (len : BitVec 3) : Txn :=
  { newTxn .memWrite { plain with addr, b := { plain.b with be := 0x81 } } false len none with
    snoop := some { hit := false, hitm := false, defer := false, gseq := false } }

theorem witness_MemoryWriteStores_retire :
    ∃ x : Txn, x = { otherWrite 1 0 with response := some .normal, got := 1 } ∧
      (onBusWith fun b => { b with ioq := [x] }).bus.ioq = [x] ∧ x.response = some .normal ∧ x.totalWords ≤ x.got ∧
      (otherWrite 1 0).got < (otherWrite 1 0).totalWords := ⟨_, rfl, rfl, rfl, by decide, by decide⟩
/-- R119: the line of an implicit writeback is in memory; R547: not where OWN# lets the memory ignore it and it does. -/
theorem test_supplied_line_stored :
    (memoryAfter (hitmRead true) false []).read (128 * 5 + 96) = 9 ∧
      memoryAfter { hitmRead true with req := { otherRead.req with b := { otherRead.req.b with exf := 0b00100 } } } true
        [] = [] := by decide +kernel
theorem witness_MemoryWriteStores_implicit :
    (hitmRead true).hitm = true ∧ Memory.wf [] = true ∧ (hitmRead true).row ≠ .memWrite ∧
      (hitmRead true).req.b.exf2 = false ∧
      ({ hitmRead true with req := { otherRead.req with b := { otherRead.req.b with exf := 0b00100 } } } : Txn).req.b.exf2
        = true ∧ ({ hitmRead true with row := .memWrite } : Txn).hitm = true := by decide
theorem witness_MemoryWriteStores :
    (otherWrite 1 0).row = .memWrite ∧ (otherWrite 1 0).hitm = false ∧ Memory.wf [] = true ∧
      (otherWrite 1 0).len.toNat ≤ 4 ∧ (otherWrite 1 0).len = 0 ∧ (otherWrite 1 0).req.b.be.getLsbD 7 = true ∧
      (otherWrite 0x7FFFFFFFFFF0 0b100).len.toNat ≤ 4 ∧ (otherWrite 0x7FFFFFFFFFF0 0b100).len ≠ 0 := by decide

/-- The die at temperature `t`, the thermal monitor as `x`, about to see `us` microseconds pass. -/
def hot (t : Int) (x : Thermal) (us : Nat) : State :=
  { withInput (.thermal us) with platform := { Platform.reset with dieTemp := t }, thermal := x }

theorem witness_ThermalStates_trip :
    (hot (Config.tTrip + 1) Thermal.reset 0).Next (.thermal 0) [] ∧ (hot (Config.tTrip + 1) Thermal.reset 0).powered = true ∧
      (hot (Config.tTrip + 1) Thermal.reset 0).bus.inReset = false ∧ Thermal.reset.mode ≠ .tripped ∧
      Config.tTrip < (hot (Config.tTrip + 1) Thermal.reset 0).platform.dieTemp := 
  ⟨⟨rfl, rfl⟩, rfl, rfl, by decide, by change Config.tTrip < Config.tTrip + 1; omega⟩
theorem witness_ThermalStates_entry :
    (hot Config.tTrip Thermal.reset 0).Next (.thermal 0) [] ∧ ¬ Config.tTrip < (hot Config.tTrip Thermal.reset 0).platform.dieTemp ∧
      Thermal.reset.etmEnabled = true ∧ Config.tEtmEntry < (hot Config.tTrip Thermal.reset 0).platform.dieTemp := 
  ⟨⟨rfl, rfl⟩, Int.lt_irrefl _, rfl, by change Config.tEtmEntry < Config.tTrip; unfold Config.tTrip; omega⟩
theorem witness_ThermalStates_exit :
    ∃ x : Thermal, x = { Thermal.reset with mode := .etmLowPower, belowTime := 1 } ∧
      (hot (Config.tEtmEntry - 1) x Config.etmExitDelay).Next (.thermal Config.etmExitDelay) [] ∧
      (hot (Config.tEtmEntry - 1) x Config.etmExitDelay).thermal.mode = .etmLowPower ∧
      ¬ Config.tTrip < (hot (Config.tEtmEntry - 1) x Config.etmExitDelay).platform.dieTemp ∧
      (hot (Config.tEtmEntry - 1) x Config.etmExitDelay).platform.dieTemp < Config.tEtmEntry ∧
      Config.etmExitDelay ≤ (hot (Config.tEtmEntry - 1) x Config.etmExitDelay).thermal.belowTime + Config.etmExitDelay := 
  ⟨_, rfl, ⟨rfl, rfl⟩, rfl, by change ¬ Config.tTrip < Config.tEtmEntry - 1; unfold Config.tTrip; omega,
    by change Config.tEtmEntry - 1 < Config.tEtmEntry; omega, by change _ ≤ 1 + _; omega⟩
theorem witness_ThermalStates_change :
    (withInput (.dieTemp (Config.tTrip + 1))).Next (.dieTemp (Config.tTrip + 1)) [] ∧
      (withInput (.dieTemp (Config.tTrip + 1))).powered = true ∧
      (withInput (.dieTemp (Config.tTrip + 1))).thermal.mode ≠ .tripped ∧ Config.tTrip < Config.tTrip + 1 :=
  ⟨⟨rfl, rfl⟩, rfl, by decide, by omega⟩
/-- In a reset in which PWRGOOD was low. -/
def inResetAfterLow : State :=
  { State.reset with bus := { Bus.reset with inReset := true }, platform := { Platform.reset with pwrgoodLow := true } }
/-- This processor drives clock b of a request. -/
def clockBState : State :=
  onBusWith fun b => { b with out := { PinsOut.idle with drivesReq := true, a := 1, req := 0b001001 } }
/-- R86, R360: the trip comes with the temperature. -/
theorem test_die_trips : (setDieTemp (Config.tTrip + 1) State.reset).thermal.mode = .tripped := by
  have h : Config.tTrip < ({ State.reset with platform := { Platform.reset with dieTemp := Config.tTrip + 1 } } : State).platform.dieTemp := by
    change Config.tTrip < Config.tTrip + 1
    omega
  unfold setDieTemp thermalStep
  rw [if_neg (by decide), if_neg (by decide), if_pos h]
  rfl
/-- R771, R772: RESET# sampled again does not forget that PWRGOOD was low. -/
theorem test_cold_reset_remembered :
    (resetAssert (inResetAfterLow)).platform.pwrgoodLow = true ∧ (resetAssert State.reset).platform.pwrgoodLow = false := ⟨rfl, rfl⟩
/-- U11: another agent's address in the clock b of this processor; its own alone is no clash. -/
theorem test_request_clash :
    contention clockBState { Pins.idle with a := 2 } = true ∧ contention clockBState Pins.idle = false := by decide +kernel
/-- R567: TRDY# is not taken by a write that is to be retried. -/
theorem test_trdy_skips_retry :
    (takeTrdy [snooped (otherWrite 1 0) (some .retry), snooped (otherWrite 2 0) none]).map (·.trdy) = [false, true] := by decide +kernel
theorem witness_ResetAsserted :
    (withInput .resetAssert).Next .resetAssert [] := ⟨rfl, rfl⟩

/-- A release of RESET# that keeps every requirement at its boundary. -/
def goodRelease (br : BitVec 4) : ResetRelease :=
  { cold := true, heldNs := 1000000, ratioHeld := true, setupClocks := 4, holdClocks := 3, ratioHoldClocks := 2,
    taCentiNs := 115, ratioPins := 0b10101, br, opts := PocOptions.reset, tcase := 85, pal := [0x00] }
/-- RESET# is asserted and `r` is its release. -/
def inResetState (r : ResetRelease) (afterTrip : Bool) : State :=
  { withInput (.resetRelease r) with
    bus := { Bus.reset with inReset := true }, thermal := { Thermal.reset with afterTrip },
    platform := { Platform.reset with pwrgoodLow := true } }

theorem witness_ResetReleased :
    (inResetState (goodRelease 0b0010) false).Next (.resetRelease (goodRelease 0b0010)) [] ∧
      (inResetState (goodRelease 0b0010) false).bus.inReset = true ∧
      resetTimingOk (inResetState (goodRelease 0b0010) false) (goodRelease 0b0010) = true ∧
      (inResetState (goodRelease 0b0010) false).platform.sku = .f1000c3 ∧ (goodRelease 0b0010).ratioPins = 0b10101 ∧
      ({ goodRelease 0b0010 with ratioPins := 0b10110 } : ResetRelease).ratioPins ≠ 0b10101 ∧
      (inResetState (goodRelease 0b0010) false).thermal.afterTrip = false ∧ (goodRelease 0b0010).br = 0b0010 ∧
      (goodRelease 0b0011).br ∉ [(0b0001 : BitVec 4), 0b1000, 0b0100, 0b0010] ∧ (goodRelease 0b0010).pal ≠ [] ∧
      (∀ k < 1, (inResetState (goodRelease 0b0010) false).mem.read (Config.resetVector.toNat + k) =
        (goodRelease 0b0010).pal.getD k 0) ∧
      (inResetState (goodRelease 0b0010) false).mem.read (Config.resetVector.toNat + 0) ≠ [(0x01 : Byte)].getD 0 0 := 
  ⟨⟨rfl, rfl⟩, rfl, by decide, rfl, rfl, by decide, rfl, rfl, by decide, by decide, fun k hk => by
    obtain rfl : k = 0 := by omega
    rfl, by change (0 : Byte) ≠ 1; decide⟩
/-- R366, R803: a release after a thermal trip with the case at 84 degrees, one below the part's maximum. -/
theorem witness_ResetReleased_afterTrip :
    ∃ r : ResetRelease, r = { goodRelease 0b0001 with tcase := 84 } ∧ (inResetState r true).Next (.resetRelease r) [] ∧
      (inResetState r true).bus.inReset = true ∧ resetTimingOk (inResetState r true) r = true ∧
      (inResetState r true).thermal.afterTrip = true ∧ r.tcase < tcaseMax (inResetState r true).platform.sku ∧
      (inResetState r true).platform.sku = .f1000c3 ∧ r.ratioPins = 0b10101 ∧ r.br = 0b0001 ∧ r.pal = [0x00] :=
  ⟨_, rfl, ⟨rfl, rfl⟩, rfl, by decide, rfl, by decide, rfl, rfl, rfl, rfl⟩
/-- The same release of a processor that RESET# has held. -/
theorem witness_ResetReleased_held :
    ∃ (r : ResetRelease) (s : State), r = goodRelease 0b0001 ∧ s = { inResetState r false with core := Core.inReset 0 } ∧
      s.Next (.resetRelease r) [] ∧ s.bus.inReset = true ∧ resetTimingOk s r = true ∧ s.platform.sku = .f1000c3 ∧
      r.ratioPins = 0b10101 ∧ s.thermal.afterTrip = false ∧ r.br = 0b0001 ∧ r.pal = [0x00] ∧
      s.mem.read (Config.resetVector.toNat + 0) = 0x00 ∧ s.HeldInReset ∧ s.platform.dieTemp ≤ Config.tTrip := by
  refine ⟨_, _, rfl, rfl, ⟨rfl, rfl⟩, rfl, by decide, rfl, rfl, rfl, rfl, rfl, rfl, fun _ => ?_, ?_⟩
  · exact ⟨heldInReset_resetValues State.reset, rfl, rfl, rfl⟩
  · change min 0 Config.tEtmEntry ≤ Config.tTrip
    unfold Config.tTrip
    omega
theorem witness_ResetReleased_die :
    (inResetState (goodRelease 0b0001) false).platform.dieTemp ≤ Config.tTrip ∧
      (inResetState (goodRelease 0b0001) false).thermal.mode ≠ .tripped := by
  refine ⟨?_, by decide⟩
  change min 0 Config.tEtmEntry ≤ Config.tTrip
  unfold Config.tTrip
  omega
theorem witness_PlatformRequirements_pwrgood :
    (withInput (.pwrgood true)).Next (.pwrgood true) [] ∧ { Platform.reset with pwrgood := false }.pwrgood = false :=
  ⟨⟨rfl, rfl⟩, rfl⟩
theorem witness_PlatformRequirements_heldOff :
    heldOff.Next .purgeDone [] ∧ heldOff.platform.pwrgood = false ∧ (Input.purgeDone).isProcessor = true :=
  ⟨⟨rfl, rfl⟩, rfl, rfl⟩
theorem witness_PlatformRequirements_timing :
    (inResetState { goodRelease 0b0001 with heldNs := 999999 } false).Next
        (.resetRelease { goodRelease 0b0001 with heldNs := 999999 }) [] ∧
      (inResetState { goodRelease 0b0001 with heldNs := 999999 } false).bus.inReset = true ∧
      ({ goodRelease 0b0001 with heldNs := 999999 } : ResetRelease).heldNs < 1000000 := 
  ⟨⟨rfl, rfl⟩, rfl, by decide⟩
theorem witness_PlatformRequirements_hot :
    (inResetState (goodRelease 0b0001) true).Next (.resetRelease (goodRelease 0b0001)) [] ∧
      (inResetState (goodRelease 0b0001) true).bus.inReset = true ∧
      resetTimingOk (inResetState (goodRelease 0b0001) true) (goodRelease 0b0001) = true ∧
      ratioOk (inResetState (goodRelease 0b0001) true).platform.sku (goodRelease 0b0001).ratioPins = true ∧
      (inResetState (goodRelease 0b0001) true).thermal.afterTrip = true ∧
      tcaseMax (inResetState (goodRelease 0b0001) true).platform.sku ≤ (goodRelease 0b0001).tcase := 
  ⟨⟨rfl, rfl⟩, rfl, by decide, by decide, rfl, by decide⟩
theorem witness_PlatformRequirements_limits :
    (withInput (.measure .vccDeviationPpm (-15000))).Next (.measure .vccDeviationPpm (-15000)) [] ∧
      (withInput (.measure .vccDeviationPpm 15001)).Next (.measure .vccDeviationPpm 15001) [] ∧
      (withInput (.measure .pwrTdpMw 100000)).Next (.measure .pwrTdpMw 100000) [] ∧
      (withInput (.measure .pwrTdpMw 100001)).Next (.measure .pwrTdpMw 100001) [] ∧
      (withInput (.measure .tcaseC 85)).Next (.measure .tcaseC 85) [] ∧
      (withInput (.measure .tcaseC 86)).Next (.measure .tcaseC 86) [] ∧
      (withInput (.measure .rtermMilliohm 38250)).Next (.measure .rtermMilliohm 38250) [] ∧
      Platform.reset.terma = Platform.reset.termb := 
  ⟨⟨rfl, rfl⟩, ⟨rfl, rfl⟩, ⟨rfl, rfl⟩, ⟨rfl, rfl⟩, ⟨rfl, rfl⟩, ⟨rfl, rfl⟩, ⟨rfl, rfl⟩, rfl⟩

end Sys2Proof.Tests
end

section
/-! PROOF. Parity (R22, R172; O50): the exclusive or of a word's bits says whether the number of set bits is odd. -/

namespace Sys2Proof.Machine

/-- The accumulator of `xorBits` flips once for each index whose bit is set. -/
theorem foldl_bne_eq_bne_decide_odd (f : Nat → Bool) (l : List Nat) (acc : Bool) :
    l.foldl (fun acc i => acc != f i) acc = (acc != decide ((l.filter f).length % 2 = 1)) := by
  induction l generalizing acc with
  | nil => simp
  | cons i l ih =>
    rw [List.foldl_cons, ih]
    cases hi : f i with
    | false => simp [hi]
    | true =>
      have flips : decide (((l.filter f).length + 1) % 2 = 1) = !decide ((l.filter f).length % 2 = 1) := by
        rw [← decide_not, decide_eq_decide]
        omega
      simp [hi, flips]

theorem xorBits_eq_decide_odd {n : Nat} (x : BitVec n) :
    xorBits x = decide (((List.range n).filter fun k => x.getLsbD k).length % 2 = 1) := by
  simp [xorBits, foldl_bne_eq_bne_decide_odd]

/-- The parity of a field of a word counts the word's own bits, from the field's first bit on. -/
theorem xorBits_extractLsb'_eq_decide_odd {w : Nat} (x : BitVec w) (start len : Nat) :
    xorBits (x.extractLsb' start len) =
      decide (((List.range len).filter fun k => x.getLsbD (start + k)).length % 2 = 1) := by
  have same_bits : ((List.range len).filter fun k => (x.extractLsb' start len).getLsbD k) =
      (List.range len).filter fun k => x.getLsbD (start + k) :=
    List.filter_congr fun k hk => by simp [List.mem_range.mp hk]
  rw [xorBits_eq_decide_odd, same_bits]

/-- AP[0]# is the parity of A[26:3]# (R172). -/
theorem addressParity_getLsbD_zero (a : AddrPins) :
    (addressParity a).getLsbD 0 = xorBits (a.extractLsb' 0 24) :=
  (BitVec.getLsbD_append ..).trans (by simp)

/-- AP[1]# is the parity of A[49:27]# (R172). -/
theorem addressParity_getLsbD_one (a : AddrPins) :
    (addressParity a).getLsbD 1 = xorBits (a.extractLsb' 24 23) :=
  (BitVec.getLsbD_append ..).trans (by simp)

theorem addressParity_getLsbD_zero_iff (a : AddrPins) :
    (addressParity a).getLsbD 0 = true ↔ ((List.range 24).filter fun k => a.getLsbD k).length % 2 = 1 := by
  rw [addressParity_getLsbD_zero, xorBits_extractLsb'_eq_decide_odd]
  simp only [Nat.zero_add, decide_eq_true_iff]

theorem addressParity_getLsbD_one_iff (a : AddrPins) :
    (addressParity a).getLsbD 1 = true ↔
      ((List.range 23).filter fun k => a.getLsbD (24 + k)).length % 2 = 1 := by
  rw [addressParity_getLsbD_one, xorBits_extractLsb'_eq_decide_odd, decide_eq_true_iff]

/-- An asserted ADS# is one more asserted signal under RP# (R172, R552). -/
theorem requestParity_iff (ads : Bool) (req : BitVec 6) :
    requestParity ads req = true ↔
      ((if ads then 1 else 0) + ((List.range 6).filter fun k => req.getLsbD k).length) % 2 = 1 := by
  rw [requestParity, xorBits_eq_decide_odd]
  generalize ((List.range 6).filter fun k => req.getLsbD k).length = count
  cases ads with
  | false => simp
  | true =>
    simp only [Bool.true_bne, Bool.not_eq_true', decide_eq_false_iff_not, if_true]
    omega

theorem responseParity_iff (rs : BitVec 3) :
    responseParity rs = true ↔ ((List.range 3).filter fun k => rs.getLsbD k).length % 2 = 1 := by
  rw [responseParity, xorBits_eq_decide_odd, decide_eq_true_iff]

/-- Settles O50: every parity bit is an exclusive or, and an exclusive or counts its asserted bits modulo two. -/
theorem parity : Obligations.Parity :=
  ⟨fun a => ⟨addressParity_getLsbD_zero_iff a, addressParity_getLsbD_one_iff a⟩, requestParity_iff, responseParity_iff⟩

end Sys2Proof.Machine
end

section
/-! PROOF. The state after reset (R90, R390, R779; O8): the thermal monitor is settled, the PIROM image is one of the
unit's. -/

namespace Sys2Proof.Machine

theorem etmEntry_le_tTrip : Config.tEtmEntry ≤ Config.tTrip := by
  unfold Config.tTrip
  omega

theorem reset_dieTemp_le_etmEntry : State.reset.platform.dieTemp ≤ Config.tEtmEntry := Int.min_le_right ..

/-- The die of the state after reset is not above the ETM entry temperature, and so not above the trip point. -/
theorem reset_settled : State.reset.Settled := by
  intro _ _ _
  have below_trip : State.reset.platform.dieTemp ≤ Config.tTrip :=
    reset_dieTemp_le_etmEntry.trans etmEntry_le_tTrip
  have not_counting : State.reset.thermal.belowTime = 0 := rfl
  exact ⟨below_trip, fun _ => ⟨fun _ => reset_dieTemp_le_etmEntry, fun _ _ => not_counting⟩⟩

theorem reset_not_inReset : State.reset.bus.inReset = false := rfl

theorem reset_heldInReset : State.reset.HeldInReset := fun h => absurd h (by simp [reset_not_inReset])

/-- The image of the reset state passes every check of the PIROM's sections (R390, R395 to R409). -/
theorem piromValid_reset : piromValid State.reset.pirom.mem State.reset.platform = true := by decide

/-- Settles O8: memory is empty, the PIROM image passes its checks, the die is cool and RESET# is not asserted. -/
theorem resetInv : Obligations.ResetInv :=
  ⟨rfl, piromValid_reset, reset_settled, reset_heldInReset⟩

end Sys2Proof.Machine
end

section
/-! PROOF. What the core keeps and what its control instructions do (R30 to R32, R660 to R670; O13, O38). -/

namespace Sys2Proof.Machine

/-- Settles O13: an instruction that travels as a packet reaches the SMBus devices, an observed request the bus agent and
the vectors waiting, a special code the queue; a core instruction moves the core, and none of its registers. -/
theorem noInstructionWritesTheRegisters : Obligations.NoInstructionWritesTheRegisters := by
  intro i s t h
  rcases encode_cases OpenCells.default i with ⟨items, packet⟩ | ⟨r, w, request⟩ | ⟨r, special⟩ | core
  · rw [exec_packet_frame packet h]
    exact ⟨rfl, rfl, rfl, rfl⟩
  · rw [(exec_request_frame request h).state]
    exact ⟨rfl, rfl, rfl, rfl⟩
  · rw [exec_special_frame special h]
    exact ⟨rfl, rfl, rfl, rfl⟩
  · exact (exec_core_frame core h).2

theorem cpuidValue_id3_revision (p : Platform) : (cpuidValue p .id3).extractLsb' 0 8 = p.cpuid3.revision := by
  unfold cpuidValue
  grind

theorem cpuidValue_id3_model (p : Platform) : (cpuidValue p .id3).extractLsb' 8 8 = p.cpuid3.model := by
  unfold cpuidValue
  grind

theorem cpuidValue_id3_family (p : Platform) : (cpuidValue p .id3).extractLsb' 16 8 = p.cpuid3.family := by
  unfold cpuidValue
  grind

theorem cpuidValue_id3_archrev (p : Platform) : (cpuidValue p .id3).extractLsb' 24 8 = p.cpuid3.archrev := by
  unfold cpuidValue
  grind

theorem cpuidValue_ia32Features_toNat (p : Platform) :
    (cpuidValue p .ia32Features).toNat = p.ia32Features.toNat := by
  unfold cpuidValue
  rw [BitVec.toNat_append]
  simp

theorem attr_zero_legal : attrLegal 0 = true := by decide

/-- A special transaction with a legal memory type and DSZ = 01 keeps the rules of its row (R103, R107). -/
theorem special_wf {r : Request} (attr : attrLegal r.b.attr = true) (dsz : r.dsz = 0b01) :
    (Instr.special r).wf = true := by
  simp [Instr.wf, Instr.malformed, Request.malformed, dszLegal, attr, dsz]

theorem specialRequest_wf (free : Nat) (code : BitVec 8) : (specialRequest free code).wf = true :=
  special_wf attr_zero_legal rfl

theorem xtprOut_instr_wf (free : Nat) (value : BitVec 4) (disable : Bool) :
    (xtprOut free value disable).instr.wf = true :=
  special_wf attr_zero_legal rfl

theorem coreReady_eq_false_of_run_ne {s : State} (h : s.core.run ≠ .running) : s.coreReady = false := by
  simp [State.coreReady, h]

theorem onBus_eq_of_onlyCore {s t : State} (h : OnlyCore s t) : t.onBus = s.onBus := by
  rw [h]
  rfl

/-- The state in which an instruction leaves the core that hands over the special transaction of `code` and stops
executing, as HALT and SHUTDOWN do (R665, R666). -/
def State.stopsWith (s : State) (code : BitVec 8) (run : RunState) : State :=
  ((s.enqueue [specialOut (s.free + 1) code]).setCore { s.core with run }).stepped.drew 1

theorem exec_halt (s : State) : exec .halt s = .next (s.stopsWith 0x03 .halted) := rfl

theorem exec_shutdown (s : State) : exec .shutdown s = .next (s.stopsWith 0x01 .shutdown) := rfl

/-- The core that has stopped with a special transaction: the bus agent holds the request and goes on, the core does not. -/
theorem stopsWith_effect (s : State) (code : BitVec 8) {run : RunState} (stopped : run ≠ .running) :
    ∃ (r : Request) (q : OutReq), OnlyCore s (s.stopsWith code run) ∧
      (s.stopsWith code run).core = { s.core with run, pc := (s.stopsWith code run).core.pc } ∧
      (s.stopsWith code run).bus.outQ = s.bus.outQ ++ [q] ∧ q.instr = .special r ∧ q.instr.wf = true ∧ r.b.be = code ∧
      (s.stopsWith code run).coreReady = false ∧ (s.stopsWith code run).onBus = s.onBus :=
  have only_core : OnlyCore s (s.stopsWith code run) := .stepped ..
  ⟨_, specialOut (s.free + 1) code, only_core, rfl, rfl, rfl, specialRequest_wf .., rfl,
    coreReady_eq_false_of_run_ne stopped, onBus_eq_of_onlyCore only_core⟩

/-- CPUID puts one constant of the unit into `cpuidOut` (R36, R662). -/
theorem exec_cpuid_effect (s : State) (reg : CpuidReg) :
    ∃ t, exec (.cpuid reg) s = .next t ∧ OnlyCore s t ∧ t.bus.outQ = s.bus.outQ ∧
      t.core = { s.core with cpuidOut := t.core.cpuidOut, pc := t.core.pc } ∧
      t.core.cpuidOut = cpuidValue s.platform reg :=
  ⟨_, rfl, .core .., rfl, rfl, rfl⟩

/-- Settles O38, one instruction at a time: what each hands over and which field of the core it sets. -/
theorem coreControlInstructions : Obligations.CoreControlInstructions := by
  refine ⟨fun s reg => ?cpuid, fun s value disable => ⟨?stopgrantAck, ?xtprUpdate⟩, fun s => ?stops⟩
  case cpuid =>
    obtain ⟨t, run, only_core, same_queue, core, out⟩ := exec_cpuid_effect s reg
    refine ⟨t, run, only_core, same_queue, core, ?_⟩
    rw [out]
    cases reg with
    | id3 =>
      exact ⟨cpuidValue_id3_revision _, cpuidValue_id3_model _, cpuidValue_id3_family _, cpuidValue_id3_archrev _⟩
    | ia32Features => exact cpuidValue_ia32Features_toNat _
    | ipfFeatures => rfl
  case stopgrantAck => exact ⟨s.stepped, rfl, .core s s.core, rfl, rfl⟩
  case xtprUpdate =>
    exact ⟨_, _, xtprOut (s.free + 1) value disable, rfl, .stepped .., rfl, rfl, rfl, xtprOut_instr_wf .., rfl, rfl, rfl⟩
  case stops =>
    refine List.forall_mem_cons.mpr ⟨?_, List.forall_mem_singleton.mpr ?_⟩
    · obtain ⟨r, q, effect⟩ := stopsWith_effect s 0x03 (run := .halted) (by decide)
      exact ⟨_, r, q, exec_halt s, effect⟩
    · obtain ⟨r, q, effect⟩ := stopsWith_effect s 0x01 (run := .shutdown) (by decide)
      exact ⟨_, r, q, exec_shutdown s, effect⟩

end Sys2Proof.Machine
end

section
/-! PROOF. Taking an event and the return from its handler (R39, R705, R731, R733, D7; O43). -/

namespace Sys2Proof.Machine

theorem Core.ret_of_saved_eq_cons {c : Core} {r : Saved} {rest : List Saved} (h : c.saved = r :: rest) :
    c.ret = { c with pc := r.pc, intMasked := r.intMasked, saved := rest } := by
  unfold Core.ret
  rw [h]

/-- Settles O43: the newest record after `take` is of the core as it was before, and the return restores the newest
record. -/
theorem takeAndReturn : Obligations.TakeAndReturn := by
  intro c e v d
  refine ⟨rfl, fun same_saved => ?_⟩
  rw [Core.take_saved] at same_saved
  exact Core.ret_of_saved_eq_cons same_saved

end Sys2Proof.Machine
end

section
/-! PROOF. The identifier of an own request (R51, R622, R623; O53): what is driven is this agent's, with a transaction ID
that is not in use. -/

namespace Sys2Proof.Machine

theorem ownDid_getLsbD_nine (arbId : BitVec 2) (tid : BitVec 5) : (ownDid arbId tid).getLsbD 9 = false := by
  unfold ownDid
  grind

theorem ownDid_agentId (arbId : BitVec 2) (tid : BitVec 5) :
    (ownDid arbId tid).extractLsb' 5 4 = arbId.zeroExtend 4 := by
  unfold ownDid
  grind

theorem ownDid_tid (arbId : BitVec 2) (tid : BitVec 5) : (ownDid arbId tid).extractLsb' 0 5 = tid := by
  unfold ownDid
  grind

theorem OutReq.den_of_request {q : OutReq} {u : Request} (h : q.instr.request = some u) : q.den = u.b.den := by
  simp [OutReq.den, h]

/-- `mapRequest` changes the request an instruction carries, and puts none where there is none. -/
theorem request_mapRequest (f : Request → Request) (i : Instr) :
    (mapRequest f i).request = i.request.map f := by
  cases i <;> rfl

/-- An instruction that carries a request travels as that request's two clocks (R160, R161). -/
theorem encode_of_request {i : Instr} {r : Request} (c : OpenCells) (h : i.request = some r) :
    encode c i = encodeRequest r (requestWord c i) := by
  cases i <;> cases h <;> rfl

/-- Starting an own request leaves clock b to be driven: that of the request with this agent's identifier (R622). -/
theorem startRequest_nextB {q : OutReq} {u : Request} (h : q.instr.request = some u) (c : OpenCells) (b : Bus)
    (rest : List OutReq) (tid : BitVec 5) :
    ∃ wb, (startRequest c b q rest tid).nextB = some wb ∧
      clockB wb.pins = (ownFields (ownDid b.arbId tid) u).b := by
  have driven : (mapRequest (ownFields (ownDid b.arbId tid)) q.instr).request =
      some (ownFields (ownDid b.arbId tid) u) := by
    rw [request_mapRequest, h, Option.map_some]
  simp only [startRequest, encode_of_request c driven, encodeRequest]
  exact ⟨_, rfl, clockB_clockBPins _⟩

theorem freeTid_not_mem_tidsInUse {b : Bus} {tid : BitVec 5} (h : freeTid b = some tid) : tid ∉ tidsInUse b := by
  have unused := List.find?_some h
  simpa using unused

/-- The request phases, transactions and deferred transactions of this agent whose transaction IDs are in use (R51, R622,
R623). -/
theorem mem_tidsInUse_iff (b : Bus) (tid : BitVec 5) :
    tid ∈ tidsInUse b ↔
      (∃ q ∈ b.issuing, q.den = true ∧ q.tid = tid) ∨ (∃ x ∈ b.ioq, x.holdsTid = true ∧ x.req.tid = tid) ∨
        ∃ p ∈ b.deferred, p.2.src.isSome = true ∧ p.1.extractLsb' 0 5 = tid := by
  simp [tidsInUse, and_assoc]

theorem Txn.holdsTid_of_mayBeDeferred {x : Txn} (own : x.src.isSome = true) (deferrable : x.req.b.den = true)
    (mayBeDeferred : x.snoop = none ∨ ∃ y, x.snoop = some y ∧ y.defer = true) : x.holdsTid = true := by
  rcases mayBeDeferred with snoop | ⟨y, snoop, defer⟩
  · simp [Txn.holdsTid, own, deferrable, snoop]
  · simp [Txn.holdsTid, own, deferrable, snoop, defer]

/-- A step that leaves a clock b to be driven, where none was, has started the request the environment names; a deferrable
one has a transaction ID not in use (R622). -/
theorem issueStep_starts {s : State} {q : Pins} {r : OutReq} {u : Request} {wb : ClockWord} (idle : s.bus.nextB = none)
    (named : s.bus.outQ[q.pick]? = some r) (request : r.instr.request = some u)
    (started : (issueStep q s).bus.nextB = some wb) :
    ∃ tid, (u.b.den = true → freeTid s.bus = some tid) ∧
      clockB wb.pins = (ownFields (ownDid s.bus.arbId tid) u).b := by
  rcases issueStep_cases q s with same | ⟨w, clock_b, -⟩ | ⟨r', tid, n, -, named', -, -, unused, start⟩
  · rw [same, idle] at started
    cases started
  · rw [idle] at clock_b
    cases clock_b
  · obtain rfl : r = r' := Option.some.inj (named.symm.trans named')
    obtain ⟨w, next, fields⟩ :=
      startRequest_nextB request s.platform.cells s.bus (s.bus.outQ.eraseIdx q.pick) tid
    rw [start] at started
    obtain rfl : w = wb := Option.some.inj (next.symm.trans started)
    exact ⟨tid, fun den => unused ((OutReq.den_of_request request).trans den), fields⟩

/-- Settles O53: the transaction ID driven is the free one, and a free one is none of those in use. -/
theorem transactionIdsAreUnique : Obligations.TransactionIdsAreUnique := by
  rintro s t q r u wb b idle named request den rfl started rfl
  obtain ⟨tid, free_tid, fields⟩ := issueStep_starts idle named request started
  have did : (clockB wb.pins).did = ownDid s.bus.arbId tid := by rw [fields, ownFields]
  have unused : tid ∉ tidsInUse s.bus := freeTid_not_mem_tidsInUse (free_tid den)
  rw [mem_tidsInUse_iff] at unused
  rw [did, ownDid_tid]
  refine ⟨ownDid_getLsbD_nine .., ownDid_agentId .., fun x hx own deferrable mayBeDeferred same => ?_,
    fun x hx deferrable same => ?_, fun p hp own same => ?_⟩
  · exact unused (.inr (.inl ⟨x, hx, Txn.holdsTid_of_mayBeDeferred own deferrable mayBeDeferred, same⟩))
  · exact unused (.inl ⟨x, hx, deferrable, same⟩)
  · exact unused (.inr (.inr ⟨p, hp, own, same⟩))

end Sys2Proof.Machine
end

section
/-! PROOF. What a move of the processor, the thermal monitor, RESET# and the platform keep (R85, R86, R100, R101, R360, R380,
R390, R431, R779, R782; O7, O12). -/

namespace Sys2Proof.Machine

/-! ### RESET# asserted and the phases of a clock -/

theorem Bus.arbitrateClock_inReset (b : Bus) (br : BitVec 3) : (b.arbitrateClock br).inReset = b.inReset := by
  unfold Bus.arbitrateClock Bus.arbitrate
  split
  · split
    · split <;> rfl
    · split
      · rfl
      · split <;> rfl
  · rfl

theorem snoopPhase_inReset (q : Pins) (s : State) : (snoopPhase q s).bus.inReset = s.bus.inReset := by
  unfold snoopPhase
  split <;> rfl

theorem dataPhase_inReset (q : Pins) (s : State) : (dataPhase q s).bus.inReset = s.bus.inReset := by
  unfold dataPhase
  split <;> rfl

theorem deferredPhase_inReset (q : Pins) (s : State) : (deferredPhase q s).bus.inReset = s.bus.inReset := by
  unfold deferredPhase
  rcases matchDeferred_cases q s.bus with ⟨_, _, _, _, _, taken⟩ | ⟨_, same⟩
  · simp only [taken]
  · simp only [same]

theorem retire_inReset (s : State) : (retire s).bus.inReset = s.bus.inReset := by
  unfold retire
  split
  · rfl
  · split
    case h_5 | h_6 => split <;> rfl
    all_goals rfl

theorem startRequest_inReset (c : OpenCells) (b : Bus) (q : OutReq) (rest : List OutReq) (tid : BitVec 5) :
    (startRequest c b q rest tid).inReset = b.inReset := by
  dsimp only [startRequest]
  split <;> rfl

theorem issueStep_inReset (q : Pins) (s : State) : (issueStep q s).bus.inReset = s.bus.inReset := by
  rcases issueStep_cases q s with same | ⟨_, _, clock_b⟩ | ⟨_, _, _, _, _, _, _, _, clock_a⟩
  · rw [same]
  · rw [clock_b]
  · rw [clock_a]
    exact startRequest_inReset ..

theorem clockPrologue_inReset (p : Pins) (s : State) : (clockPrologue p s).bus.inReset = s.bus.inReset := by
  have arbitrated (b : Bus) (berr : Bool) (q : Pins) :
      (((b.freshOut berr).arbitrateClock q.br).sampleFlags q).inReset = b.inReset :=
    Bus.arbitrateClock_inReset (b.freshOut berr) q.br
  have answered (q : Pins) (s : State) : (responsePhase q s).bus.inReset = s.bus.inReset := rfl
  have sampled (q : Pins) (s : State) : (samplePins q s).bus.inReset = s.bus.inReset := rfl
  have requested (b : Bus) (q : Pins) : (b.driveBreq q).inReset = b.inReset := rfl
  simp only [clockPrologue, clockPhases, requested, issueStep_inReset, retire_inReset, dataPhase_inReset, answered,
    snoopPhase_inReset, deferredPhase_inReset, sampleTnd_bus, arbitrated, sampleBerr_bus, sampled]

theorem binitClock_inReset (q : Pins) (s : State) : (binitClock q s).bus.inReset = s.bus.inReset := by
  simp only [binitClock, Bus.resetFsm_inReset, sampleBerr_bus]
  rfl

theorem binitClock_mem (q : Pins) (s : State) : (binitClock q s).mem = s.mem := by
  simp [binitClock]

/-! ### A move of the processor -/

theorem SmbusSame.refl (s : State) : SmbusSame s s := ⟨rfl, rfl, rfl⟩

theorem SmbusSame.trans {s t u : State} (h : SmbusSame s t) (h' : SmbusSame t u) : SmbusSame s u :=
  ⟨h'.1.trans h.1, h'.2.1.trans h.2.1, h'.2.2.trans h.2.2⟩

/-- What a move of the processor that does not set ETM leaves alone, whatever it does: the SMBus devices, the thermal monitor,
the platform, RESET# and the canonical form of memory. -/
structure ProcessorFrame (s t : State) : Prop where
  devices : SmbusSame s t
  thermal : t.thermal = s.thermal
  platform : t.platform = s.platform
  inReset : t.bus.inReset = s.bus.inReset
  memory : s.mem.wf = true → t.mem.wf = true

theorem ProcessorFrame.refl (s : State) : ProcessorFrame s s := ⟨.refl s, rfl, rfl, rfl, id⟩

theorem ProcessorFrame.trans {s t u : State} (h : ProcessorFrame s t) (h' : ProcessorFrame t u) : ProcessorFrame s u where
  devices := h.devices.trans h'.devices
  thermal := h'.thermal.trans h.thermal
  platform := h'.platform.trans h.platform
  inReset := h'.inReset.trans h.inReset
  memory := h'.memory ∘ h.memory

theorem OnlyCore.processorFrame {s t : State} (h : OnlyCore s t) : ProcessorFrame s t := by
  rw [h]
  exact ⟨⟨rfl, rfl, rfl⟩, rfl, rfl, rfl, id⟩

theorem RequestFrame.processorFrame {s t : State} (h : RequestFrame s t) : ProcessorFrame s t := by
  rw [h.state, h.bus]
  exact ⟨⟨rfl, rfl, rfl⟩, rfl, rfl, rfl, id⟩

theorem clockPrologue_frame (p : Pins) (s : State) : ProcessorFrame s (clockPrologue p s) where
  devices := ⟨clockPrologue_pirom p s, clockPrologue_scratch p s, clockPrologue_sensor p s⟩
  thermal := clockPrologue_thermal p s
  platform := clockPrologue_platform p s
  inReset := clockPrologue_inReset p s
  memory := clockPrologue_wf p

theorem binitClock_frame (q : Pins) (s : State) : ProcessorFrame s (binitClock q s) where
  devices := ⟨binitClock_pirom q s, binitClock_scratch q s, binitClock_sensor q s⟩
  thermal := binitClock_thermal q s
  platform := binitClock_platform q s
  inReset := binitClock_inReset q s
  memory := by rw [binitClock_mem]; exact id

/-- A new latch of clock a is of no concern to anything but the request phase. -/
theorem ProcessorFrame.latch (s : State) (l : Option ClockWord) :
    ProcessorFrame s { s with bus := { s.bus with latchA := l } } := ⟨⟨rfl, rfl, rfl⟩, rfl, rfl, rfl, id⟩

theorem runClock_frame {p : Pins} {s t : State} (h : runClock p s = .next t) : ProcessorFrame s t := by
  rcases runClock_cases h with rfl | rfl | ⟨c, r, w, i, request, run⟩ | ⟨l, rfl⟩
  · exact .refl t
  · exact binitClock_frame ..
  · exact ((clockPrologue_frame p s).trans (.latch _ none)).trans (exec_request_frame request run).processorFrame
  · exact (clockPrologue_frame p s).trans (.latch _ l)

theorem runCore_frame {i : Instr} {s t : State} (h : runCore i s = .next t) : ProcessorFrame s t := by
  rcases runCore_cases h with rfl | ⟨core, run⟩
  · exact .refl t
  · exact (exec_core_frame core run).1.processorFrame

theorem purgeDone_frame (s : State) : ProcessorFrame s (purgeDone s) := by
  rcases purgeDone_cases s with same | ⟨r, rest, _, _, purged⟩
  · rw [same]
    exact .refl s
  · rw [purged]
    exact ⟨⟨rfl, rfl, rfl⟩, rfl, rfl, rfl, id⟩

/-- Neither ETM nor a trip touches RESET#. -/
theorem thermalStep_bus_inReset (us : Nat) (s : State) : (thermalStep us s).bus.inReset = s.bus.inReset := by
  rcases thermalStep_cases us s with same | trip | cmci | etm
  · rw [same]
  · rw [trip]
    rfl
  · rw [cmci]
  · rw [etm]

theorem coreAct_inReset (a : CoreAct) (s : State) : (coreAct a s).bus.inReset = s.bus.inReset := by
  unfold coreAct
  split
  · cases a with
    | etm e => exact thermalStep_bus_inReset ..
    | request i data endian =>
      rw [coreActEffect]
      split <;> rfl
    | _ => rfl
  · rfl

/-- An internal step sets ETM, and the monitor evaluates it, or it is a move like any other. -/
theorem coreAct_cases (a : CoreAct) (s : State) :
    (∃ e, coreAct a s = thermalStep 0 { s with thermal := setEtm e s.thermal }) ∨ ProcessorFrame s (coreAct a s) := by
  rcases coreAct_frame a s with ⟨e, _, etm⟩ | frame
  · exact .inl ⟨e, etm⟩
  · refine .inr ⟨?_, ?_, ?_, coreAct_inReset a s, ?_⟩
    all_goals rw [frame]
    · exact ⟨rfl, rfl, rfl⟩
    · exact id

/-- Every move of the processor that goes on sets ETM, and the monitor evaluates it, or leaves what `ProcessorFrame` names. -/
theorem runInput_processor {x : Input} {s t : State} (processor : x.isProcessor = true) (h : runInput x s = .next t) :
    (∃ e, t = thermalStep 0 { s with thermal := setEtm e s.thermal }) ∨ ProcessorFrame s t := by
  cases x <;> cases processor
  case clock p => exact .inr (runClock_frame h)
  case core i => exact .inr (runCore_frame h)
  case coreAct a =>
    obtain rfl := Host.Outcome.next.inj h
    exact coreAct_cases a s
  case coreInterrupt =>
    obtain rfl := Host.Outcome.next.inj h
    exact .inr (takeInterrupt_frame s).processorFrame
  case purgeDone =>
    obtain rfl := Host.Outcome.next.inj h
    exact .inr (purgeDone_frame s)

/-- RESET# holds the bus agent and the core off (R88, R770). -/
theorem State.heldOff_of_inReset {s : State} (h : s.bus.inReset = true) : s.onBus = false ∧ s.coreReady = false := by
  simp [State.onBus, State.coreReady, h]

/-- A processor that takes no part in the bus and whose core does not execute makes no move. -/
theorem runInput_heldOff {x : Input} {s : State} (processor : x.isProcessor = true) (off : s.onBus = false)
    (idle : s.coreReady = false) : runInput x s = .next s := by
  cases x <;> cases processor
  case clock p => simp [runInput, runClock, off]
  case core i =>
    simp only [runInput, runCore, idle]
    split <;> rfl
  case coreAct a =>
    have not_ready : a.ready s = false := by
      unfold CoreAct.ready
      split <;> assumption
    simp [runInput, coreAct, not_ready]
  case coreInterrupt => simp [runInput, takeInterrupt, idle]
  case purgeDone => simp [runInput, purgeDone, off]

/-! ### Every event that does not reach the SMBus -/

/-- The part, its VID and its CPUID words: what a PIROM image is checked against (R390, R399 to R407). -/
def Platform.unit (p : Platform) : Sku × BitVec 5 × Cpuid3 × BitVec 32 × BitVec 64 :=
  (p.sku, p.vid, p.cpuid3, p.ia32Features, p.ipfFeatures)

theorem piromValid_of_unit_eq {p q : Platform} (unit : p.unit = q.unit) (image : Vector Byte 128) :
    piromValid image p = piromValid image q := by
  simp only [Platform.unit, Prod.mk.injEq] at unit
  obtain ⟨sku, vid, cpuid3, ia32Features, ipfFeatures⟩ := unit
  simp only [piromValid, sku, vid, cpuid3, ia32Features, ipfFeatures]

/-- What an event that does not reach the SMBus keeps, before the thermal monitor evaluates what it has changed. -/
structure Sheltered (s t : State) : Prop where
  devices : SmbusSame s t
  unit : t.platform.unit = s.platform.unit
  memory : s.mem.wf = true → t.mem.wf = true
  held : s.HeldInReset → t.HeldInReset

theorem Sheltered.refl (s : State) : Sheltered s s := ⟨.refl s, rfl, id, id⟩

theorem Sheltered.trans {s t u : State} (h : Sheltered s t) (h' : Sheltered t u) : Sheltered s u :=
  ⟨h.devices.trans h'.devices, h'.unit.trans h.unit, h'.memory ∘ h.memory, h'.held ∘ h.held⟩

/-- A change of the platform around the unit. -/
theorem Sheltered.platform {s : State} {p : Platform} (unit : p.unit = s.platform.unit) :
    Sheltered s { s with platform := p } := ⟨⟨rfl, rfl, rfl⟩, unit, id, id⟩

theorem State.heldInReset_of_not_inReset {s : State} (h : s.bus.inReset = false) : s.HeldInReset :=
  fun inReset => absurd (h.symm.trans inReset) Bool.false_ne_true

/-- A processor out of reset is held by nothing. -/
theorem ProcessorFrame.sheltered {s t : State} (h : ProcessorFrame s t) (running : s.bus.inReset = false) :
    Sheltered s t where
  devices := h.devices
  unit := by rw [h.platform]
  memory := h.memory
  held _ := State.heldInReset_of_not_inReset (h.inReset.trans running)

theorem ProcessorFrame.settled {s t : State} (h : ProcessorFrame s t) (settled : s.Settled) : t.Settled :=
  settled.congr h.inReset h.thermal (by rw [h.platform]) (by rw [h.platform])

theorem resetAssert_sheltered (s : State) : Sheltered s (resetAssert s) where
  devices := ⟨rfl, rfl, rfl⟩
  unit := rfl
  memory := id
  held _ _ := ⟨heldInReset_resetValues s, rfl, rfl, rfl⟩

theorem resetAssert_settled (s : State) : (resetAssert s).Settled :=
  fun _ not_inReset => absurd not_inReset (by simp [resetAssert])

/-- The supply lost while RESET# is asserted: RESET# goes on holding the rest (R779, R812). -/
theorem heldInReset_sheltered {s : State} {p : Platform} (inReset : s.bus.inReset = true)
    (unit : p.unit = s.platform.unit) : Sheltered s { heldInReset s with platform := p } where
  devices := ⟨rfl, rfl, rfl⟩
  unit := unit
  memory := id
  held held _ := by
    obtain ⟨_, _, thermal⟩ := held inReset
    exact ⟨heldInReset_resetValues s, rfl, thermal⟩

/-- A load step leaves the processor as it is, held in reset or without its data, for the monitor to evaluate. -/
theorem powerStep_sheltered {next : PowerState} {s t : State} (h : powerStep next s = .next t) :
    ∃ u, Sheltered s u ∧ t = thermalStep 0 u := by
  unfold powerStep at h
  split at h
  · cases h
  · split at h
    · cases h
    · obtain rfl := Host.Outcome.next.inj h
      refine ⟨_, ?_, rfl⟩
      split
      · split
        case isTrue inReset => exact heldInReset_sheltered inReset rfl
        case isFalse running =>
          exact ⟨⟨rfl, rfl, rfl⟩, rfl, id, fun _ => State.heldInReset_of_not_inReset (Bool.eq_false_iff.mpr running)⟩
      · exact .platform rfl

theorem resetRelease_sheltered {r : ResetRelease} {s t : State} (h : resetRelease r s = .next t) :
    t = s ∨ ∃ u, Sheltered s u ∧ t = thermalStep 0 u := by
  unfold resetRelease at h
  (repeat' split at h) <;> cases h
  · exact .inl rfl
  · exact .inr ⟨released .., ⟨⟨rfl, rfl, rfl⟩, rfl, id, fun _ => State.heldInReset_of_not_inReset rfl⟩, rfl⟩

/-- The monitor reaches neither memory nor the SMBus, and nothing while RESET# is asserted (R365, R770). -/
theorem thermalStep_sheltered (us : Nat) (s : State) : Sheltered s (thermalStep us s) := by
  cases inReset : s.bus.inReset with
  | true =>
    rw [thermalStep_inReset us inReset]
    exact .refl s
  | false =>
    have not_held := State.heldInReset_of_not_inReset ((thermalStep_bus_inReset us s).trans inReset)
    refine ⟨⟨thermalStep_pirom us s, thermalStep_scratch us s, thermalStep_sensor us s⟩, ?_, ?_, fun _ => not_held⟩
    · rw [thermalStep_platform]
      rfl
    · rw [thermalStep_mem]
      exact id

/-- What a step whose event does not reach the SMBus keeps: the monitor is settled after it, too. -/
structure ShelteredStep (s t : State) : Prop extends Sheltered s t where
  settled : s.Settled → t.Settled

theorem ShelteredStep.refl (s : State) : ShelteredStep s s := ⟨.refl s, id⟩

/-- A sheltered change that the monitor evaluates at once (R360). -/
theorem ShelteredStep.evaluated {s u : State} (h : Sheltered s u) (us : Nat) : ShelteredStep s (thermalStep us u) :=
  ⟨h.trans (thermalStep_sheltered us u), fun _ => thermalStep_settled us u⟩

/-- The script and the code to be read next are none of what is kept. -/
theorem ShelteredStep.of_event {s t : State} {code : Option Request} {script : List Input}
    (h : ShelteredStep { s with special := code, inputs := script } t) : ShelteredStep s t :=
  ⟨⟨h.devices, h.unit, h.memory, h.held⟩, h.settled⟩

/-- A change of the platform that is neither of the temperature nor of the supply gives the monitor nothing to do. -/
theorem ShelteredStep.platform {s : State} {p : Platform} (unit : p.unit = s.platform.unit)
    (power : p.powerState = s.platform.powerState) (temp : p.dieTemp = s.platform.dieTemp) :
    ShelteredStep s { s with platform := p } :=
  ⟨.platform unit, fun settled => settled.congr rfl rfl power temp⟩

theorem runInput_processor_sheltered {x : Input} {s t : State} (processor : x.isProcessor = true)
    (h : runInput x s = .next t) : ShelteredStep s t := by
  cases inReset : s.bus.inReset with
  | true =>
    obtain ⟨off, not_ready⟩ := State.heldOff_of_inReset inReset
    rw [runInput_heldOff processor off not_ready] at h
    obtain rfl := Host.Outcome.next.inj h
    exact .refl s
  | false =>
    rcases runInput_processor processor h with ⟨e, rfl⟩ | frame
    · have etm_set : Sheltered s { s with thermal := setEtm e s.thermal } :=
        ⟨⟨rfl, rfl, rfl⟩, rfl, id, fun _ => State.heldInReset_of_not_inReset inReset⟩
      exact .evaluated etm_set 0
    · exact ⟨frame.sheltered inReset, frame.settled⟩

theorem runInput_platform_sheltered {x : Input} {s t : State} (not_processor : x.isProcessor = false)
    (not_smbus : x.isSmbus = false) (h : runInput x s = .next t) : ShelteredStep s t := by
  cases x <;> cases not_processor <;> cases not_smbus
  case dieTemp d =>
    cases h
    exact .evaluated (u := { s with platform := { s.platform with dieTemp := d } }) (.platform rfl) 0
  case thermal us => cases h; exact .evaluated (.refl s) us
  case resetAssert => cases h; exact ⟨resetAssert_sheltered s, fun _ => resetAssert_settled s⟩
  case resetRelease r =>
    rcases resetRelease_sheltered h with rfl | ⟨u, sheltered, rfl⟩
    · exact .refl t
    · exact .evaluated sheltered 0
  case pwrgood level =>
    simp only [runInput, setPwrgood] at h
    split at h <;> cases h
    exact .platform rfl rfl rfl
  case smwp level => cases h; exact .platform rfl rfl rfl
  case araRival rival => cases h; exact .platform rfl rfl rfl
  case power next =>
    obtain ⟨u, sheltered, rfl⟩ := powerStep_sheltered h
    exact .evaluated sheltered 0
  case measure q value =>
    simp only [runInput, measured] at h
    split at h
    · cases h
    · split at h <;> cases h
      exact .refl s
  case overshoot e =>
    simp only [runInput, overshootSeen] at h
    split at h <;> cases h
    exact .platform rfl rfl rfl
  case platformCheck =>
    simp only [runInput, platformCheck] at h
    (repeat' split at h) <;> cases h
    exact .platform rfl rfl rfl

theorem runInput_sheltered {x : Input} {s t : State} (not_smbus : x.isSmbus = false) (h : runInput x s = .next t) :
    ShelteredStep s t := by
  cases processor : x.isProcessor with
  | true => exact runInput_processor_sheltered processor h
  | false => exact runInput_platform_sheltered processor not_smbus h

theorem ShelteredStep.inv {s t : State} (h : ShelteredStep s t) (inv : s.Inv) : t.Inv := by
  obtain ⟨memory, image, settled, held⟩ := inv
  refine ⟨h.memory memory, ?_, h.settled settled, h.held held⟩
  rw [h.devices.1, piromValid_of_unit_eq h.unit]
  exact image

/-! ### The code of a special transaction -/

theorem exec_special_marks {c : OpenCells} {i : Instr} {r : Request} (special : encode c i = .special r) {s t : State}
    (h : exec i s = .next t) : ∃ k, t = s.markSpecial k := by
  cases i <;> simp only [encode, encodeRequest, reduceCtorEq] at special
  case eeSequentialRead sel start n => cases start <;> simp at special
  case sensorReservedCommand a c form => cases form <;> simp at special
  case specialReserved => cases h
  all_goals
    cases h
    exact ⟨_, rfl⟩

theorem State.ResetValues.ioq_eq_nil {s : State} (h : s.ResetValues) : s.bus.ioq = [] := by
  obtain ⟨_, _, _, _, _, _, _, _, _, _, _, _, ioq, _⟩ := h
  exact ioq

theorem markSpecial_of_ioq_eq_nil {s : State} (h : s.bus.ioq = []) (k : SpecialKind) : s.markSpecial k = s := by
  rw [State.markSpecial, h, markNewest, ← h]

/-- A special transaction known by its kind: while RESET# is asserted there is none in the queue. -/
theorem markSpecial_sheltered (k : SpecialKind) (s : State) : ShelteredStep s (s.markSpecial k) := by
  refine ⟨⟨⟨rfl, rfl, rfl⟩, rfl, id, fun held inReset => ?_⟩, fun settled => settled.congr rfl rfl rfl rfl⟩
  obtain ⟨values, rest⟩ := held inReset
  rw [markSpecial_of_ioq_eq_nil values.ioq_eq_nil]
  exact ⟨values, rest⟩

/-! ### Every step -/

/-- Only what the SMBus reaches, the script and the 3.3 V supply may differ. -/
def OnlySmbusOrSupply (s t : State) : Prop :=
  t = { s with
    pirom := t.pirom, scratch := t.scratch, sensor := t.sensor, answer := t.answer, free := t.free, inputs := t.inputs,
    platform := { s.platform with smbusPower := t.platform.smbusPower } }

/-- An event that reaches the SMBus devices leaves the rest of the package alone, and every byte of the PIROM. -/
theorem runInput_smbus {x : Input} {s t : State} (smbus : x.isSmbus = true) (h : runInput x s = .next t) :
    t.pirom.mem = s.pirom.mem ∧ OnlySmbusOrSupply s t := by
  cases x <;> cases smbus
  case packet items =>
    refine ⟨(runPacket_mem h).1, ?_⟩
    rw [runPacket_frame h]
    rfl
  case packetSmwpChange => cases h
  case sensorTime us error =>
    cases h
    unfold sensorTime
    split <;> exact ⟨rfl, rfl⟩
  case diode isOpen => cases h; exact ⟨rfl, rfl⟩
  case sensorRate mill =>
    cases h
    unfold sensorRate
    split <;> exact ⟨rfl, rfl⟩
  case smbusPower on busy =>
    cases h
    unfold smbusPower
    (repeat' split) <;> exact ⟨rfl, rfl⟩

theorem runInput_smbus_inv {x : Input} {s t : State} (smbus : x.isSmbus = true) (h : runInput x s = .next t)
    (inv : s.Inv) : t.Inv := by
  obtain ⟨same_bytes, frame⟩ := runInput_smbus smbus h
  obtain ⟨memory, image, settled, held⟩ := inv
  rw [← same_bytes] at image
  rw [frame]
  exact ⟨memory, image, settled, held⟩

/-- Every step is one of an event that reaches the SMBus devices, or sheltered from them. -/
theorem step_smbus_or_sheltered {s t : State} (h : step s = .next t) :
    (∃ x rest, s.Next x rest ∧ x.isSmbus = true ∧ runInput x { s with inputs := rest } = .next t) ∨
      ShelteredStep s t := by
  rcases step_cases h with ⟨r, _, run⟩ | ⟨_, _, rfl⟩ | ⟨x, rest, next, run⟩
  · obtain ⟨k, rfl⟩ := exec_special_marks (decodeSpecial_encode OpenCells.default r) run
    exact .inr (markSpecial_sheltered k { s with special := none }).of_event
  · exact .inr (.refl t)
  · cases smbus : x.isSmbus with
    | true => exact .inl ⟨x, rest, next, smbus, run⟩
    | false => exact .inr (runInput_sheltered smbus run).of_event

/-- Settles O7: an event of the SMBus leaves alone what the invariant speaks of, any other is sheltered from the PIROM, and
the thermal monitor evaluates what it changes. -/
theorem stepKeepsInv : Obligations.StepKeepsInv := by
  intro s t inv h
  rcases step_smbus_or_sheltered h with ⟨x, rest, _, smbus, run⟩ | sheltered
  · exact runInput_smbus_inv (s := { s with inputs := rest }) smbus run inv
  · exact sheltered.inv inv

/-- Settles O12: the step is sheltered from the devices unless its event reaches them, and a packet reaches nothing else. -/
theorem smbusIsSeparate : Obligations.SmbusIsSeparate := by
  intro s t h
  refine ⟨?_, fun items rest next => ?_⟩
  · rcases step_smbus_or_sheltered h with ⟨x, rest, next, smbus, _⟩ | sheltered
    · exact .inr ⟨x, rest, next, smbus⟩
    · exact .inl sheltered.devices
  · rw [step_next next] at h
    have frame := runPacket_frame (s := { s with inputs := rest }) h
    rw [OnlySmbus] at frame ⊢
    rw [frame]

end Sys2Proof.Machine
end

section
/-! PROOF. A request that breaks a rule of its fields is refused by the name of the first rule it breaks (R102, R103, R106 to
R108; O34). -/

namespace Sys2Proof.Machine

/-- A memory access runs unless its request is malformed. -/
theorem exec_memoryAccess {i : Instr} {r : Request} {asz : BitVec 2} {bit : BitVec 1} {len : BitVec 3}
    (access : i ∈ [Instr.memReadInvalidate r asz len, .memRead r asz bit len, .memWrite r asz bit len,
      .memReadCurrent r asz len]) (s : State) :
    ∃ t, exec i s = unlessMalformed (r.malformedMem asz len) t := by
  simp only [List.mem_cons, List.not_mem_nil, or_false] at access
  rcases access with rfl | rfl | rfl | rfl <;> exact ⟨_, rfl⟩

/-- A request of a row that carries DSZ but no ASZ runs unless it is malformed. -/
theorem exec_plainRequest {i : Instr} {r : Request} {low : BitVec 3}
    (plain : i ∈ [Instr.interruptAcknowledge r, .special r, .interrupt r, .purgeTc r, .ioRead r low, .ioWrite r low])
    (s : State) : ∃ t, exec i s = unlessMalformed r.malformed t := by
  simp only [List.mem_cons, List.not_mem_nil, or_false] at plain
  rcases plain with rfl | rfl | rfl | rfl | rfl | rfl <;> exact ⟨_, rfl⟩

section Rules

variable {r : Request} {asz : BitVec 2} {len : BitVec 3}

theorem malformedMem_asz (asz_bad : aszLegal r.addr asz = false) : r.malformedMem asz len = some .asz := by
  simp [Request.malformedMem, asz_bad]

theorem malformedMem_attr (asz_ok : aszLegal r.addr asz = true) (attr_bad : attrLegal r.b.attr = false) :
    r.malformedMem asz len = some .attr := by
  simp [Request.malformedMem, asz_ok, attr_bad]

theorem malformedMem_dsz (asz_ok : aszLegal r.addr asz = true) (attr_ok : attrLegal r.b.attr = true)
    (dsz_bad : dszLegal r.b.did r.dsz = false) : r.malformedMem asz len = some .dsz := by
  simp [Request.malformedMem, asz_ok, attr_ok, dsz_bad]

theorem malformedMem_len (asz_ok : aszLegal r.addr asz = true) (attr_ok : attrLegal r.b.attr = true)
    (dsz_ok : dszLegal r.b.did r.dsz = true) (len_bad : 4 < len.toNat) : r.malformedMem asz len = some .len := by
  have reserved : lenLegal len = false := decide_eq_false (Nat.not_le.mpr len_bad)
  simp [Request.malformedMem, asz_ok, attr_ok, dsz_ok, reserved]

theorem malformedMem_alignment (asz_ok : aszLegal r.addr asz = true) (attr_ok : attrLegal r.b.attr = true)
    (dsz_ok : dszLegal r.b.did r.dsz = true) (len_ok : len.toNat ≤ 4)
    (unaligned : r.addr.toNat % 2 ^ len.toNat ≠ 0) : r.malformedMem asz len = some .alignment := by
  have legal : lenLegal len = true := decide_eq_true len_ok
  have not_aligned : aligned r.addr len = false := beq_false_of_ne unaligned
  simp [Request.malformedMem, asz_ok, attr_ok, dsz_ok, legal, not_aligned]

theorem malformed_attr (attr_bad : attrLegal r.b.attr = false) : r.malformed = some .attr := by
  simp [Request.malformed, attr_bad]

theorem malformed_dsz (attr_ok : attrLegal r.b.attr = true) (dsz_bad : dszLegal r.b.did r.dsz = false) :
    r.malformed = some .dsz := by
  simp [Request.malformed, attr_ok, dsz_bad]

theorem malformedAttr_attr (attr_bad : attrLegal r.b.attr = false) : r.malformedAttr = some .attr := by
  simp [Request.malformedAttr, attr_bad]

end Rules

/-- Settles O34: each row runs unless its request is malformed, and the rules are looked at in one order. -/
theorem malformedRequestsStop : Obligations.MalformedRequestsStop := by
  intro s r asz bit len low
  refine ⟨fun i access => ?_, fun i plain => ?_, ?_, fun attr_bad => ?_⟩
  · obtain ⟨t, run⟩ := exec_memoryAccess access s
    rw [run]
    refine ⟨fun asz_bad => ?_, fun asz_ok attr_bad => ?_, fun asz_ok attr_ok dsz_bad => ?_,
      fun asz_ok attr_ok dsz_ok len_bad => ?_, fun asz_ok attr_ok dsz_ok len_ok unaligned => ?_⟩
    · rw [malformedMem_asz asz_bad]; rfl
    · rw [malformedMem_attr asz_ok attr_bad]; rfl
    · rw [malformedMem_dsz asz_ok attr_ok dsz_bad]; rfl
    · rw [malformedMem_len asz_ok attr_ok dsz_ok len_bad]; rfl
    · rw [malformedMem_alignment asz_ok attr_ok dsz_ok len_ok unaligned]; rfl
  · obtain ⟨t, run⟩ := exec_plainRequest plain s
    rw [run]
    refine ⟨fun attr_bad => ?_, fun attr_ok dsz_bad => ?_⟩
    · rw [malformed_attr attr_bad]; rfl
    · rw [malformed_dsz attr_ok dsz_bad]; rfl
  · simp only [exec, execCacheLineReplacement]
    refine ⟨fun asz_bad => ?_, fun asz_ok attr_bad => ?_, fun asz_ok attr_ok dsz_bad => ?_⟩
    · rw [malformedMem_asz asz_bad]; rfl
    · rw [malformedMem_attr asz_ok attr_bad]; rfl
    · rw [malformedMem_dsz asz_ok attr_ok dsz_bad]; rfl
  · simp only [exec, execDeferredReply]
    rw [malformedAttr_attr attr_bad]; rfl

end Sys2Proof.Machine
end

section
/-! PROOF. The bus image of an access of the core and the lanes its bytes travel on (R101 to R108, R167, R517, R671; O42). -/

namespace Sys2Proof

/-! ### Lanes -/

/-- Byte `k` of the line data of some bytes is the `k`th of them. -/
theorem laneByte_ofBytes {bs : List Byte} {k : Nat} (h : k < 128) : laneByte (ofBytes bs) k = bs.getD k 0 := by
  induction bs generalizing k with
  | nil => simp [laneByte, ofBytes]
  | cons b rest ih =>
    cases k with
    | zero =>
      ext i hi
      have low : i < 8 := hi
      simp [laneByte, ofBytes, low]
      omega
    | succ k =>
      have rest_lane : laneByte (ofBytes rest) k = rest.getD k 0 := ih (by omega)
      rw [List.getD_cons_succ, ← rest_lane]
      apply BitVec.eq_of_getLsbD_eq
      intro i hi
      have beyond : b.getLsbD (8 * (k + 1) + i) = false := b.getLsbD_of_ge _ (by omega)
      have above : ¬ 8 * (k + 1) + i < 8 := by omega
      have within : 8 * (k + 1) + i < 1024 := by omega
      have shifted : 8 * (k + 1) + i - 8 = 8 * k + i := by omega
      simp only [laneByte, ofBytes, BitVec.getLsbD_extractLsb', BitVec.getLsbD_or, BitVec.getLsbD_setWidth,
        BitVec.getLsbD_shiftLeft, beyond, above, within, shifted]
      simp

theorem laneByte_shiftLeft (d : LineData) {base k : Nat} (h : base + k < 128) :
    laneByte (d <<< (8 * base)) (base + k) = laneByte d k := by
  apply BitVec.eq_of_getLsbD_eq
  intro i hi
  have within : 8 * (base + k) + i < 1024 := by omega
  have above : ¬ 8 * (base + k) + i < 8 * base := by omega
  have shifted : 8 * (base + k) + i - 8 * base = 8 * k + i := by omega
  simp only [laneByte, BitVec.getLsbD_extractLsb', BitVec.getLsbD_shiftLeft, within, above, shifted]
  simp

theorem laneBase_le (a : AddrPins) : laneBase a ≤ 8 := by
  unfold laneBase
  split <;> omega

/-- In big-endian order byte `k` of `n` is the one as far from the end. -/
theorem laneByte_reverseBytes (d : LineData) {n k : Nat} (hn : n ≤ 128) (hk : k < n) :
    laneByte (reverseBytes d n) k = laneByte d (n - 1 - k) := by
  rw [reverseBytes, laneByte_ofBytes (by omega)]
  simp [List.getD, hk]

theorem laneByte_endianBytes (e : Endian) (d : LineData) {n k : Nat} (hn : n ≤ 128) (hk : k < n) :
    laneByte (endianBytes e n d) k = laneByte d (if e = .little then k else n - 1 - k) := by
  cases e with
  | little => rfl
  | big => exact laneByte_reverseBytes d hn hk

/-- The byte positions that BE[7:0]# names, in rising order. -/
def enabledLanes (be : BitVec 8) : List Nat := (List.range 8).filter be.getLsbD

theorem enabledLanes_nodup (be : BitVec 8) : (enabledLanes be).Nodup := List.nodup_range.filter _

/-- The enabled positions are mirrored among themselves: the `j`th from the start on the `j`th from the end. -/
theorem mirrorLane_enabledLanes {be : BitVec 8} {j : Nat} (h : j < (enabledLanes be).length) :
    mirrorLane be ((enabledLanes be).getD j 0) = (enabledLanes be).getD ((enabledLanes be).length - 1 - j) 0 := by
  have lane : (enabledLanes be).getD j 0 = (enabledLanes be)[j] := by simp [List.getD, h]
  have enabled : be.getLsbD (enabledLanes be)[j] = true := (List.mem_filter.mp (List.getElem_mem h)).2
  have place : (enabledLanes be).idxOf (enabledLanes be)[j] = j := (enabledLanes_nodup be).idxOf_getElem j h
  have mirrored : (enabledLanes be).length - 1 - j < (enabledLanes be).length := by omega
  rw [lane, mirrorLane, ← enabledLanes, if_pos enabled, place]
  simp [List.getD, h, mirrored]

theorem laneByte_endianPartial_big (be : BitVec 8) (d : LineData) {i : Nat} (h : i < 8) :
    laneByte (endianPartial .big be d) i = laneByte d (mirrorLane be i) := by
  rw [endianPartial, laneByte_ofBytes (by omega)]
  simp [List.getD, h]

theorem getD_enabledLanes_lt {be : BitVec 8} {j : Nat} (h : j < (enabledLanes be).length) :
    (enabledLanes be).getD j 0 < 8 := by
  have lane : (enabledLanes be).getD j 0 = (enabledLanes be)[j] := by simp [List.getD, h]
  rw [lane]
  exact List.mem_range.mp (List.mem_filter.mp (List.getElem_mem h)).1

/-- A partial access travels in the half of the bus that A[3]# selects (R105). -/
theorem laneByte_laneData_partial (e : Endian) (a : AddrPins) (be : BitVec 8) (d : LineData) {k : Nat} (h : k < 8) :
    laneByte (laneData e a 0 be d) (laneBase a + k) = laneByte (endianPartial e be d) k := by
  have := laneBase_le a
  rw [laneData, if_pos rfl, laneByte_shiftLeft _ (by omega)]

theorem xferBytes_le {len : BitVec 3} (h : len.toNat ≤ 4) : xferBytes len ≤ 128 := by
  unfold xferBytes
  split
  · omega
  · calc 2 ^ (len.toNat + 3) ≤ 2 ^ 7 := Nat.pow_le_pow_right (by omega) (by omega)
      _ = 128 := rfl

/-! ### The request of an access -/

/-- The request of an access of any kind: the byte enables are its own when it is partial on the bus (R106, R110). -/
def Access.busRequest (a : Access) : Request :=
  ownRequest (pinsOf a.addr) a.memType.code (if a.lenCode = 0 then a.be else 0xFF) false a.exf2 a.deferrable

theorem XferLen.code_eq_zero_iff (l : XferLen) : l.code = 0 ↔ l = .partial8 := by
  cases l <;> decide

theorem XferLen.code_le (l : XferLen) : l.code.toNat ≤ 4 := by
  cases l <;> decide

theorem Access.lenCode_le (a : Access) : a.lenCode.toNat ≤ 4 := by
  unfold Access.lenCode
  split
  · decide
  · decide
  · exact a.len.code_le
  · exact a.len.code_le
  · exact a.len.code_le

theorem Access.request_eq_busRequest {a : Access} (h : a.lenCode = a.len.code) : a.request = a.busRequest := by
  simp only [Access.request, Access.busRequest, Access.enables, h, XferLen.code_eq_zero_iff]

/-- The bus image of an access, kind by kind (R671). -/
theorem Access.image_eq (a : Access) :
    a.image = match a.kind with
      | .load => .memRead a.busRequest (aszOf (pinsOf a.addr)) 1 a.lenCode
      | .fetch => .memRead a.busRequest (aszOf (pinsOf a.addr)) 0 a.lenCode
      | .store => .memWrite a.busRequest (aszOf (pinsOf a.addr)) (BitVec.ofBool a.snooped) a.lenCode
      | .ioRead => .ioRead a.busRequest 0
      | .ioWrite => .ioWrite a.busRequest 0 := by
  cases kind : a.kind
  all_goals simp only [Access.image, Access.busRequest, Access.request, Access.enables, Access.lenCode, kind,
    XferLen.code_eq_zero_iff, ownRequest, if_true]

theorem aszLegal_aszOf (a : AddrPins) : aszLegal a (aszOf a) = true := by
  unfold aszLegal aszOf
  split <;> simp_all

theorem attrLegal_code (m : MemType) : attrLegal m.code = true := by
  cases m <;> decide

theorem pinsOf_toNat {a : BitVec 64} (h : a.toNat < 2 ^ 50) : (pinsOf a).toNat = a.toNat / 8 := by
  simp only [pinsOf, BitVec.extractLsb'_toNat, Nat.shiftRight_eq_div_pow]
  omega

/-- The number of bytes an access must be aligned to: one of a partial access, else its length (R106, R108). -/
def Access.boundary (a : Access) : Nat := if a.lenCode = 0 then 1 else xferBytes a.lenCode

theorem Access.boundary_partial {a : Access} (h : a.lenCode = 0) : a.boundary = 1 := if_pos h

theorem Access.boundary_long {a : Access} (h : a.lenCode ≠ 0) : a.boundary = xferBytes a.lenCode := if_neg h

theorem one_lt_xferBytes (len : BitVec 3) : 1 < xferBytes len := by
  unfold xferBytes
  split
  · omega
  · exact Nat.one_lt_two_pow (by omega)

theorem Access.boundary_eq_one_iff (a : Access) : a.boundary = 1 ↔ a.lenCode = 0 := by
  by_cases h : a.lenCode = 0
  · simp [Access.boundary_partial h, h]
  · have := one_lt_xferBytes a.lenCode
    rw [Access.boundary_long h]
    exact iff_of_false (by omega) h

/-- A natural alignment in bytes is one of the granules the pins name (R108). -/
theorem Access.aligned_of_boundary {a : Access} (pins : a.addr.toNat < 2 ^ 50)
    (natural : a.addr.toNat % a.boundary = 0) : aligned (pinsOf a.addr) a.lenCode = true := by
  rw [aligned, pinsOf_toNat pins, beq_iff_eq]
  by_cases part : a.lenCode = 0
  · rw [part]
    exact Nat.mod_one _
  · rw [Access.boundary_long part, xferBytes, if_neg part, pow_add, mul_comm] at natural
    exact Nat.mod_eq_zero_of_dvd (Nat.dvd_div_of_mul_dvd (Nat.dvd_of_mod_eq_zero natural))

theorem Access.busRequest_dszLegal (a : Access) : dszLegal a.busRequest.b.did a.busRequest.dsz = true := by
  simp [dszLegal, Access.busRequest, ownRequest]

theorem Access.busRequest_malformed (a : Access) : a.busRequest.malformed = none := by
  have attr : attrLegal a.busRequest.b.attr = true := attrLegal_code a.memType
  have dsz := a.busRequest_dszLegal
  simp [Request.malformed, attr, dsz]

theorem Access.busRequest_malformedMem {a : Access} (h : aligned (pinsOf a.addr) a.lenCode = true) :
    a.busRequest.malformedMem (aszOf (pinsOf a.addr)) a.lenCode = none := by
  have asz : aszLegal a.busRequest.addr (aszOf (pinsOf a.addr)) = true := aszLegal_aszOf _
  have attr : attrLegal a.busRequest.b.attr = true := attrLegal_code a.memType
  have dsz := a.busRequest_dszLegal
  have len : lenLegal a.lenCode = true := decide_eq_true a.lenCode_le
  have alignment : aligned a.busRequest.addr a.lenCode = true := h
  simp [Request.malformedMem, asz, attr, dsz, len, alignment]

/-- The bus image of an access whose address the pins carry, naturally aligned, breaks no rule (R102, R103, R106 to R108). -/
theorem Access.image_wf {a : Access} (h : aligned (pinsOf a.addr) a.lenCode = true) : a.image.wf = true := by
  have plain := a.busRequest_malformed
  have memory := Access.busRequest_malformedMem h
  rw [Access.image_eq]
  cases a.kind <;> simp [Instr.wf, Instr.malformed, plain, memory]

theorem exfBits_fields (fcl exf2 den : Bool) :
    (exfBits fcl exf2 den).getLsbD 0 = true ∧ (exfBits fcl exf2 den).getLsbD 1 = den ∧
      (exfBits fcl exf2 den).getLsbD 2 = exf2 ∧ (exfBits fcl exf2 den).getLsbD 3 = fcl := by
  cases fcl <;> cases exf2 <;> cases den <;> decide

/-! ### The lane data of an access -/

section Lanes

variable {a : Access}

theorem Access.wireData_little (part : a.lenCode = 0) (little : a.endian = .little) {k : Nat} (h : k < 8) :
    laneByte a.wireData (laneBase (pinsOf a.addr) + k) = laneByte a.data k := by
  rw [Access.wireData, part, laneByte_laneData_partial _ _ _ _ h, little]
  rfl

theorem Access.wireData_big (part : a.lenCode = 0) (big : a.endian = .big) {j : Nat}
    (h : j < (enabledLanes a.be).length) :
    laneByte a.wireData (laneBase (pinsOf a.addr) + (enabledLanes a.be).getD j 0) =
      laneByte a.data ((enabledLanes a.be).getD ((enabledLanes a.be).length - 1 - j) 0) := by
  rw [Access.wireData, part, laneByte_laneData_partial _ _ _ _ (getD_enabledLanes_lt h), big,
    laneByte_endianPartial_big _ _ (getD_enabledLanes_lt h), mirrorLane_enabledLanes h]

theorem Access.wireData_long (long : a.lenCode ≠ 0) {k : Nat} (h : k < xferBytes a.lenCode) :
    laneByte a.wireData k = laneByte a.data (if a.endian = .little then k else xferBytes a.lenCode - 1 - k) := by
  rw [Access.wireData, laneData, if_neg long, laneByte_endianBytes _ _ (xferBytes_le a.lenCode_le) h]

end Lanes

end Sys2Proof

namespace Sys2Proof.Machine

theorem accessAligned_iff (a : Access) : accessAligned a = true ↔ a.addr.toNat % a.boundary = 0 := by
  rw [accessAligned, Bool.or_eq_true, beq_iff_eq, beq_iff_eq]
  by_cases part : a.lenCode = 0
  · rw [Access.boundary_partial part]
    exact iff_of_true (.inl part) (Nat.mod_one _)
  · rw [Access.boundary_long part]
    exact or_iff_right part

theorem exec_loadStoreFetch_aligned {a : Access} {s : State} (pins : a.addr.toNat < 2 ^ 50)
    (natural : a.addr.toNat % a.boundary = 0) :
    exec (.loadStoreFetch a) s = .next ((s.enqueue [accessOut a]).stepped) := by
  rw [exec, execLoadStoreFetch, if_pos pins, if_pos ((accessAligned_iff a).mpr natural)]

theorem exec_loadStoreFetch_misaligned {a : Access} {s : State} (pins : a.addr.toNat < 2 ^ 50)
    (unaligned : a.addr.toNat % a.boundary ≠ 0) : exec (.loadStoreFetch a) s = .refused .misaligned := by
  rw [exec, execLoadStoreFetch, if_pos pins, if_neg (mt (accessAligned_iff a).mp unaligned)]

theorem exec_loadStoreFetch_fault {a : Access} {s : State} (beyond : 2 ^ 50 ≤ a.addr.toNat) :
    exec (.loadStoreFetch a) s = .fault .physicalAddress := by
  rw [exec, execLoadStoreFetch, if_neg (by omega)]

/-- Settles O42: the image handed over is the row of the access's kind with its request, and the lanes carry the bytes of
its value in the core's order. -/
theorem loadStoreFetch : Obligations.LoadStoreFetch := by
  intro s a len n sizes
  have sizes : (len, n) = (a.lenCode, a.boundary) := by
    rw [sizes, Access.boundary, Access.lenCode]
    cases a.kind with
    | ioRead | ioWrite => rfl
    | load | store | fetch => cases a.len <;> rfl
  obtain ⟨rfl, rfl⟩ := Prod.mk.inj sizes
  refine ⟨fun pins natural => ?_, exec_loadStoreFetch_misaligned, exec_loadStoreFetch_fault⟩
  obtain ⟨dps, den, exf2, fcl⟩ := exfBits_fields false a.exf2 a.deferrable
  have granule : 8 * (pinsOf a.addr).toNat = a.addr.toNat / 8 * 8 := by rw [pinsOf_toNat pins, mul_comm]
  have be : a.busRequest.b.be = if a.boundary = 1 then a.be else 0xFF := by
    simp only [Access.boundary_eq_one_iff]
    rfl
  refine ⟨_, accessOut a, a.busRequest, aszOf (pinsOf a.addr), exec_loadStoreFetch_aligned pins natural, .stepped' .., rfl,
    rfl, Access.image_wf (Access.aligned_of_boundary pins natural), granule, rfl, dps, den, exf2, fcl, rfl, be, rfl,
    fun part little k hk => ?little_endian, fun part big => ?big_endian, fun long k hk => ?long, fun kind => ?image_load,
    fun kind => ?image_fetch, fun kind => ?image_store, fun kind => ?image_ioRead, fun kind => ?image_ioWrite⟩
  case little_endian => exact Access.wireData_little (a.boundary_eq_one_iff.mp part) little hk
  case big_endian =>
    rintro _ j rfl hj
    exact Access.wireData_big (a.boundary_eq_one_iff.mp part) big hj
  case long =>
    have long_code : a.lenCode ≠ 0 := mt a.boundary_eq_one_iff.mpr (by omega)
    rw [Access.boundary_long long_code] at hk ⊢
    exact Access.wireData_long long_code hk
  all_goals
    change a.image = _
    rw [Access.image_eq, kind]

end Sys2Proof.Machine
end

section
/-! PROOF. When this agent issues one of its requests, and what it drives in clocks a and b (R107, R114, R168, R172, R527,
R622, R633, R638, R639, R669; O54). -/

namespace Sys2Proof.Machine

/-! ### The request with this agent's fields -/

theorem ownFields_dps (did : Did) (u : Request) : (ownFields did u).b.dps = true := by
  simp only [ownFields, ClockB.dps, BitVec.getLsbD_or]
  simp

theorem ownFields_exf {k : Nat} (h : k ≠ 0) (did : Did) (u : Request) :
    (ownFields did u).b.exf.getLsbD k = u.b.exf.getLsbD k := by
  have only_dps : (0b00001 : BitVec 5).getLsbD k = false := by
    cases k with
    | zero => exact absurd rfl h
    | succ k => simp
  simp only [ownFields, BitVec.getLsbD_or, only_dps, Bool.or_false]

/-! ### What a clock of the request phase does -/

theorem issueStep_clockB {q : Pins} {s : State} {wb : ClockWord} (h : s.bus.nextB = some wb) :
    issueStep q s = { s with bus := { s.bus with nextB := none, out := requestPins s.bus.out false wb } } := by
  simp only [issueStep, h]

theorem issueStep_unnamed {q : Pins} {s : State} (idle : s.bus.nextB = none) (unnamed : s.bus.outQ[q.pick]? = none) :
    issueStep q s = s := by
  simp only [issueStep, idle, unnamed]

/-- With clock b of no request to be driven, a request that may not be issued is not. -/
theorem issueStep_blocked {q : Pins} {s : State} {r : OutReq} (idle : s.bus.nextB = none)
    (named : s.bus.outQ[q.pick]? = some r)
    (blocked : mayIssue q s.bus = false ∨ barrierOk s.bus (s.bus.outQ.take q.pick) r = false) : issueStep q s = s := by
  rcases issueStep_cases q s with same | ⟨wb, clock_b, _⟩ | ⟨r', _, _, _, named', may, barrier, _, _⟩
  · exact same
  · exact nomatch idle.symm.trans clock_b
  · obtain rfl : r = r' := Option.some.inj (named.symm.trans named')
    rw [may, barrier] at blocked
    simp at blocked

/-- A request that may be issued is started, a deferrable one with the free transaction ID. -/
theorem issueStep_start {q : Pins} {s : State} {r : OutReq} (idle : s.bus.nextB = none)
    (named : s.bus.outQ[q.pick]? = some r) (may : mayIssue q s.bus = true)
    (barrier : barrierOk s.bus (s.bus.outQ.take q.pick) r = true) (free : r.den = true → freeTid s.bus ≠ none) :
    ∃ (tid : BitVec 5) (n : Nat), (r.den = true → freeTid s.bus = some tid) ∧ issueStep q s =
      { s with bus := startRequest s.platform.cells s.bus r (s.bus.outQ.eraseIdx q.pick) tid, free := n } := by
  cases den : r.den with
  | true =>
    obtain ⟨tid, unused⟩ := Option.ne_none_iff_exists'.mp (free den)
    refine ⟨tid, s.free, fun _ => unused, ?_⟩
    simp only [issueStep, idle, named, may, barrier, den, unused, Bool.and_true, if_true]
  | false =>
    refine ⟨(Config.freeByte s.free).extractLsb' 0 5, s.free + 1, fun h => absurd h Bool.false_ne_true, ?_⟩
    simp only [issueStep, idle, named, may, barrier, den, Bool.and_true, if_true, Bool.false_eq_true, if_false]
    rfl

/-- Clock a of an own request: the two clocks encode it with this agent's fields (R622). -/
theorem startRequest_of_request {r : OutReq} {u : Request} (h : r.instr.request = some u) (c : OpenCells) (b : Bus)
    (rest : List OutReq) (tid : BitVec 5) :
    ∃ (i : Instr) (wa wb : ClockWord), i = mapRequest (ownFields (ownDid b.arbId tid)) r.instr ∧
      i.request = some (ownFields (ownDid b.arbId tid) u) ∧ encode c i = .request wa wb ∧
      startRequest c b r rest tid =
        { b with outQ := rest, issuing := b.issuing ++ [{ r with instr := i }], nextB := some wb, sinceAds := 0,
                 out := requestPins b.out true wa } := by
  have driven : (mapRequest (ownFields (ownDid b.arbId tid)) r.instr).request =
      some (ownFields (ownDid b.arbId tid) u) := by
    rw [request_mapRequest, h, Option.map_some]
  have encoded := encode_of_request c driven
  refine ⟨_, _, _, rfl, driven, encoded, ?_⟩
  rw [encodeRequest] at encoded
  simp only [startRequest, encoded]

/-- A barrier waits for the write-backs among the requests before it, in the order the statement lists them (R669). -/
theorem barrierOk_iff_before {b : Bus} {pre before : List OutReq} (r : OutReq)
    (listed : before = pre ++ b.issuing ++ b.ioq.filterMap (·.src) ++ b.deferred.filterMap (·.2.src)) :
    barrierOk b pre r = true ↔ (r.barrier = true → ∀ w ∈ before, w.purpose ≠ .writeback) := by
  have same : before = pre ++ b.ownRequests := by simp only [listed, Bus.ownRequests, List.append_assoc]
  rw [barrierOk_iff, same]

theorem mayIssue_eq_true {q : Pins} {b : Bus} (idle : b.nextB = none) (owner : b.owner = some b.arbId)
    (breq : b.breqOut = true) (bpri : q.bpri = false) (bnr : q.bnr = false) (ads : q.ads = false)
    (hold : q.holdIssue = false) (configured : b.configClocks = 0) (spacing : Config.adsMinSpacing ≤ b.sinceAds) :
    mayIssue q b = true := by
  simp [mayIssue, idle, owner, breq, bpri, bnr, ads, hold, configured, spacing]

theorem mayIssue_eq_false {q : Pins} {b : Bus} (h : q.bpri = true ∨ q.bnr = true ∨ b.owner ≠ some b.arbId) :
    mayIssue q b = false := by
  rcases h with bpri | bnr | owner
  · simp [mayIssue, bpri]
  · simp [mayIssue, bnr]
  · simp [mayIssue, beq_false_of_ne owner]

/-- Settles O54: what is issued is the request the environment names, as `startRequest` drives it; what holds it back are
`mayIssue` and the barrier. -/
theorem ownRequestsAreIssued : Obligations.OwnRequestsAreIssued := by
  refine ⟨fun s q r pre post before u idle handed_over pick request listed => ?issue, fun s q idle beyond => ?unnamed,
    fun s q wb next => ⟨_, rfl, ?clock_b⟩⟩
  case unnamed => exact issueStep_unnamed idle (List.getElem?_eq_none beyond)
  case clock_b =>
    rw [issueStep_clockB next]
    exact ⟨rfl, rfl⟩
  have named : s.bus.outQ[q.pick]? = some r := by simp [handed_over, pick]
  have rest : s.bus.outQ.eraseIdx q.pick = pre ++ post := by simp [handed_over, pick, List.eraseIdx_append_of_length_le]
  have earlier : s.bus.outQ.take q.pick = pre := by simp [handed_over, pick]
  have barrier_iff := barrierOk_iff_before r listed
  rw [← earlier] at barrier_iff
  refine ⟨fun barrier owner breq bpri bnr ads hold configured spacing free => ?_, fun barrier waits => ?_, fun held => ?_⟩
  · have den : r.den = u.b.den := OutReq.den_of_request request
    have may := mayIssue_eq_true idle owner breq bpri bnr ads hold configured spacing
    obtain ⟨tid, n, unused, started⟩ := issueStep_start idle named may (barrier_iff.mpr barrier) (by rwa [den])
    obtain ⟨i, wa, wb, own, driven, encoded, start⟩ :=
      startRequest_of_request request s.platform.cells s.bus (pre ++ post) tid
    rw [rest, start] at started
    rw [den] at unused
    refine ⟨_, i, tid, _, wa, wb, started, rfl, own, unused, driven, rfl, ownFields_dps .., ownDid_getLsbD_nine ..,
      ownDid_agentId .., ownDid_tid .., rfl, fun k hk => ownFields_exf hk .., encoded, rfl⟩
  · refine issueStep_blocked idle named (.inr (Bool.eq_false_iff.mpr fun ok => ?_))
    obtain ⟨w, listed_before, writeback⟩ := waits
    exact barrier_iff.mp ok barrier w listed_before writeback
  · exact issueStep_blocked idle named (.inl (mayIssue_eq_false held))

end Sys2Proof.Machine
end

section
/-! PROOF. What a completed transaction stores in memory (R101, R105, R106, R114, R119, R547, R600, R611; O56). -/

namespace Sys2Proof

/-! ### The cells a transaction stores -/

/-- Bytes at consecutive addresses are each stored once. -/
theorem nodup_consecutive (base n : Nat) (f : Nat → Byte) :
    (((List.range n).map fun k => (base + k, f k)).map Prod.fst).Nodup := by
  rw [List.map_map]
  exact List.nodup_range.map fun _ _ same => Nat.add_left_cancel same

theorem byteBase_linePins (l : LineAddr) : byteBase (linePins l) = 128 * l.toNat := by
  simp only [byteBase, linePins, BitVec.toNat_append, Nat.shiftLeft_eq, BitVec.toNat_ofNat]
  simp
  omega

theorem storedCells_partial (a : AddrPins) (be : BitVec 8) (d : LineData) :
    storedCells a 0 be d = (List.range 8).filterMap fun i =>
      if be.getLsbD i then some (byteBase a + i, laneByte d (laneBase a + i)) else none := if_pos rfl

theorem storedCells_long {len : BitVec 3} (long : len ≠ 0) (a : AddrPins) (be : BitVec 8) (d : LineData) :
    storedCells a len be d = (List.range (2 ^ (len.toNat + 3))).map fun k => (byteBase a + k, laneByte d k) := by
  rw [storedCells, if_neg long, xferBytes, if_neg long]

/-- A partial write stores the bytes its byte enables name (R101, R105). -/
theorem mem_storedCells_partial {a : AddrPins} {be : BitVec 8} {d : LineData} {c : Host.Cell} :
    c ∈ storedCells a 0 be d ↔
      ∃ i < 8, be.getLsbD i = true ∧ c = (byteBase a + i, laneByte d (laneBase a + i)) := by
  simp only [storedCells_partial, List.mem_filterMap, List.mem_range, Option.ite_none_right_eq_some, Option.some.injEq,
    eq_comm (a := c)]

theorem nodup_storedCells (a : AddrPins) (len : BitVec 3) (be : BitVec 8) (d : LineData) :
    ((storedCells a len be d).map Prod.fst).Nodup := by
  by_cases part : len = 0
  · rw [part, storedCells_partial, List.map_filterMap]
    refine List.nodup_range.filterMap fun i j address hi hj => ?_
    simp only [Option.mem_def, Option.map_eq_some_iff, Option.ite_none_right_eq_some, Option.some.injEq] at hi hj
    obtain ⟨_, ⟨_, rfl⟩, rfl⟩ := hi
    obtain ⟨_, ⟨_, rfl⟩, same⟩ := hj
    exact (Nat.add_left_cancel same).symm
  · rw [storedCells_long part]
    exact nodup_consecutive ..

end Sys2Proof

namespace Sys2Proof.Machine

/-! ### Memory after cells have been stored -/

/-- Consecutive bytes are read back, each at its address. -/
theorem Memory.read_writeAll_consecutive {m : Memory} (wf : m.wf = true) (base : Nat) {n k : Nat} (f : Nat → Byte)
    (h : k < n) : (m.writeAll ((List.range n).map fun k => (base + k, f k))).read (base + k) = f k :=
  Memory.read_writeAll_mem _ wf (nodup_consecutive ..) (List.mem_map.mpr ⟨k, List.mem_range.mpr h, rfl⟩)

theorem Memory.read_writeAll_not_consecutive (m : Memory) {base n a : Nat} (f : Nat → Byte)
    (h : ∀ k < n, a ≠ base + k) : (m.writeAll ((List.range n).map fun k => (base + k, f k))).read a = m.read a := by
  refine Memory.read_writeAll_other _ fun c hc => ?_
  obtain ⟨k, hk, rfl⟩ := List.mem_map.mp hc
  exact (h k (List.mem_range.mp hk)).symm

/-! ### The memory of a completed transaction -/

/-- HITM# brings a line for memory accesses only. -/
theorem Txn.isMemory_of_hitm {t : Txn} (h : t.hitm = true) : t.row.isMemory = true :=
  (Bool.and_eq_true_iff.mp h).1

/-- With no snoop result there is no line (R623). -/
theorem Txn.hitm_of_no_snoop (t : Txn) : Txn.hitm { t with snoop := none } = false := Bool.and_false _

/-- Of the memory accesses only a Memory Write is a write. -/
theorem BusRow.isWrite_of_isMemory {r : BusRow} (h : r.isMemory = true) : r.isWrite = decide (r = .memWrite) := by
  cases r <;> first | rfl | cases h

/-- OWN# lets the memory ignore the line, unless the transaction is a Memory Write, whose EXF[2]# is CCL# (R167, R547). -/
theorem memoryAfter_ignored {t : Txn} {m : Memory} (hitm : t.hitm = true) (not_write : t.row ≠ .memWrite)
    (own : t.req.b.exf2 = true) : memoryAfter t true m = m := by
  have no_write : t.row.isWrite = false := by
    rw [BusRow.isWrite_of_isMemory (Txn.isMemory_of_hitm hitm)]
    exact decide_eq_false not_write
  simp [memoryAfter, hitm, not_write, own, no_write]

/-- The line of an implicit writeback that is not ignored is stored before the transaction's own bytes (R119). -/
theorem memoryAfter_line {t : Txn} {m : Memory} {ig : Bool} (hitm : t.hitm = true)
    (stored : t.row = .memWrite ∨ t.req.b.exf2 = false ∨ ig = false) :
    memoryAfter t ig m =
      memoryAfter { t with snoop := none } ig (m.writeAll (lineCells (lineOf t.req.addr) t.wbuf)) := by
  have not_ignored : (t.req.b.exf2 && !t.row.isWrite && ig) = false := by
    rcases stored with row | own | ig
    · simp [row, BusRow.isWrite]
    · simp [own]
    · simp [ig]
  simp only [memoryAfter, hitm, not_ignored, t.hitm_of_no_snoop]
  simp

/-- Without the line of an implicit writeback only a Memory Write stores anything. -/
theorem memoryAfter_own {t : Txn} {m : Memory} (ig : Bool) (no_line : t.hitm = false) :
    memoryAfter t ig m =
      if t.row = .memWrite then m.writeAll (storedCells t.req.addr t.len t.req.b.be t.buf) else m := by
  simp [memoryAfter, no_line]

theorem read_line {m : Memory} (wf : m.wf = true) (l : LineAddr) (d : LineData) {k : Nat} (h : k < 128) :
    (m.writeAll (lineCells l d)).read (128 * l.toNat + k) = laneByte d k := by
  rw [lineCells, ← byteBase_linePins]
  exact Memory.read_writeAll_consecutive wf _ _ h

theorem read_outside_line (m : Memory) (l : LineAddr) (d : LineData) {a : Nat} (h : ∀ k < 128, a ≠ 128 * l.toNat + k) :
    (m.writeAll (lineCells l d)).read a = m.read a := by
  rw [← byteBase_linePins] at h
  exact Memory.read_writeAll_not_consecutive m _ h

/-! ### The head of the queue -/

/-- Only a completed transaction, with a response that lets its data flow and all of its words, changes memory
(R114, R600). -/
theorem retire_mem {s : State} {x : Txn} {rest : List Txn} (head : s.bus.ioq = x :: rest) :
    (retire s).mem = if x.dataPhase && x.dataDone then memoryAfter x (Config.freeBool (s.free + 1)) s.mem else s.mem := by
  cases response : x.response with
  | none => simp [retire, head, Txn.dataPhase, response]
  | some k =>
    cases k with
    | normal | implicitWriteback =>
      cases done : x.dataDone <;> simp [retire, head, Txn.dataPhase, response, done, completeTxn]
    | _ => simp [retire, head, Txn.dataPhase, response, completeTxn]

theorem Txn.dataPhase_iff (x : Txn) :
    x.dataPhase = true ↔ x.response = some .normal ∨ x.response = some .implicitWriteback := by
  unfold Txn.dataPhase
  split <;> simp_all

/-- Settles O56: the line of an implicit writeback and the bytes of a Memory Write are cells at distinct addresses, stored
when the head leaves the queue with its data moved. -/
theorem memoryWriteStores : Obligations.MemoryWriteStores := by
  refine ⟨fun s x rest head => ⟨fun response done => ?completed, fun incomplete => ?incomplete⟩,
    fun t m ig hitm wf => ⟨fun not_write own ignored => ?ignored, fun stored => ?line⟩,
    fun t m ig row no_line wf len => ?own⟩
  case completed =>
    have all_moved : (x.dataPhase && x.dataDone) = true :=
      Bool.and_eq_true_iff.mpr ⟨x.dataPhase_iff.mpr response, decide_eq_true done⟩
    exact ⟨_, (retire_mem head).trans (if_pos all_moved)⟩
  case incomplete =>
    refine (retire_mem head).trans (if_neg fun completed => ?_)
    obtain ⟨flows, done⟩ := Bool.and_eq_true_iff.mp completed
    rcases incomplete with ⟨not_normal, not_implicit⟩ | missing
    · exact (x.dataPhase_iff.mp flows).elim not_normal not_implicit
    · exact absurd (of_decide_eq_true done) (Nat.not_le.mpr missing)
  case ignored =>
    rw [ignored]
    exact memoryAfter_ignored hitm not_write own
  case line =>
    have line := memoryAfter_line (m := m) hitm stored
    refine ⟨_, Memory.wf_writeAll _ wf, fun k hk => read_line wf _ _ hk, fun a outside => read_outside_line m _ _ outside,
      line, fun not_write => ?_⟩
    rw [line, memoryAfter_own ig t.hitm_of_no_snoop]
    exact if_neg not_write
  case own =>
    have stores : memoryAfter t ig m = m.writeAll (storedCells t.req.addr t.len t.req.b.be t.buf) :=
      (memoryAfter_own ig no_line).trans (if_pos row)
    rw [stores]
    refine ⟨fun part => ?_, fun long => ?_, Memory.wf_writeAll _ wf⟩
    · rw [part]
      refine ⟨fun i hi enabled => ?_, fun a outside => Memory.read_writeAll_other _ fun c hc => ?_⟩
      · exact Memory.read_writeAll_mem _ wf (nodup_storedCells ..) (mem_storedCells_partial.mpr ⟨i, hi, enabled, rfl⟩)
      · obtain ⟨i, hi, enabled, rfl⟩ := mem_storedCells_partial.mp hc
        exact (outside i hi enabled).symm
    · rw [storedCells_long long]
      exact ⟨fun k hk => Memory.read_writeAll_consecutive wf _ _ hk,
        fun a outside => Memory.read_writeAll_not_consecutive m _ outside⟩

end Sys2Proof.Machine
end

section
/-! PROOF. SMBus packets round trip (R142 to R155; O1): the packet an instruction is sent as parses to its shape, the shape's
address leads to the family of its device, and there the bytes give the instruction back. -/

namespace Sys2Proof

theorem decode_packet_of_parse {items : List HostItem} {p : Packet} (h : parsePacket items = some p) (c : OpenCells)
    (smwp : Bool) : decode c smwp (.packet items) = decodePacket smwp p := by
  simp only [decode, h]

theorem decode_packetRead (c : OpenCells) (smwp : Bool) (a : SmbAddr) (n : Nat) :
    decode c smwp (.packet (packetRead a n)) = decodePacket smwp (.read a n) :=
  decode_packet_of_parse (parsePacket_read a n) c smwp

theorem decode_packetWriteRead (c : OpenCells) (smwp : Bool) (a : SmbAddr) (d : Byte) (n : Nat) :
    decode c smwp (.packet (packetWriteRead a d n)) = decodePacket smwp (.writeRead a d n) :=
  decode_packet_of_parse (parsePacket_writeRead a d n) c smwp

theorem decode_packetWrite (c : OpenCells) (smwp : Bool) (a : SmbAddr) (l : List Byte) :
    decode c smwp (.packet (packetWrite a l)) = decodePacket smwp (.write a l) :=
  decode_packet_of_parse (parsePacket_write a l) c smwp

/-! ### Packets to a memory -/

/-- A packet to an address of the form 1010XXY goes to a memory (R142). -/
theorem decodePacket_memoryAddress {smwp : Bool} {p : Packet} {sel : EeSel} (h : p.address = memoryAddress sel) :
    decodePacket smwp p = decodeMemoryPacket smwp p := by
  simp [decodePacket, h, isReservedAddress_memoryAddress, isMemoryAddress_memoryAddress]

/-- A read of a memory that the host goes on with, from the counter or from a data address, is a sequential read (R416). -/
theorem decodePacket_sequentialRead {smwp : Bool} {sel : EeSel} {more : Nat} (h : more ≠ 0) (d : Byte) :
    decodePacket smwp (.read (memoryAddress sel) more) = .instr (.eeSequentialRead sel none more) ∧
      decodePacket smwp (.writeRead (memoryAddress sel) d more) = .instr (.eeSequentialRead sel (some d) more) := by
  obtain ⟨n, rfl⟩ := Nat.exists_eq_succ_of_ne_zero h
  constructor
  · rw [decodePacket_memoryAddress rfl, decodeMemoryPacket, addressSel_memoryAddress]
    simp
  · rw [decodePacket_memoryAddress rfl, decodeMemoryPacket, addressSel_memoryAddress]
    simp

theorem decodePacket_memoryWrite (smwp : Bool) (sel : EeSel) (da : Byte) (data : List Byte) :
    decodePacket smwp (.write (memoryAddress sel) (da :: data)) = decodeMemoryWrite smwp sel da data := by
  rw [decodePacket_memoryAddress rfl, decodeMemoryPacket, addressSel_memoryAddress]

/-- What a write packet with data to a memory is: by the device select bit, by SMWP, by the number of data bytes (R149, R418 to
R421). -/
theorem decodeMemoryWrite_cons (smwp : Bool) (sel : EeSel) (da d : Byte) (more : List Byte) :
    decodeMemoryWrite smwp sel da (d :: more) =
      .instr (if sel.pirom then .eeWriteToPirom sel.sma da (d :: more)
        else if smwp then .eeWriteProtected sel.sma da (d :: more)
        else if more = [] then .eeByteWrite sel.sma da d
        else .eePageWrite sel.sma da (d :: more)) := by
  simp only [decodeMemoryWrite, apply_ite Decoded.instr]

/-! ### Packets to the sensor -/

/-- A packet to an address that is neither a memory's, nor reserved, nor the Alert Response Address goes to the sensor
(R433). -/
theorem decodePacket_sensor (smwp : Bool) (p : Packet) (h : sensorMalformed p.address = none) :
    decodePacket smwp p = decodeSensorPacket p := by
  have sensor : isSensorAddress p.address = true := by simpa [sensorMalformed] using h
  simp only [isSensorAddress, Bool.and_eq_true, Bool.not_eq_true', beq_eq_false_iff_ne] at sensor
  obtain ⟨⟨not_memory, not_reserved⟩, not_ara⟩ := sensor
  simp [decodePacket, not_memory, not_reserved, not_ara]

theorem decodePacket_sensorRead (smwp : Bool) {t : SmbAddr} (h : sensorMalformed t = none) (x : Byte) :
    decodePacket smwp (.writeRead t x 0) = .instr (decodeSensorRead t x) :=
  decodePacket_sensor smwp (.writeRead t x 0) h

theorem decodePacket_sensorWrite (smwp : Bool) {t : SmbAddr} (h : sensorMalformed t = none) (x d : Byte) :
    decodePacket smwp (.write t [x, d]) = .instr (decodeSensorWrite t x d) :=
  decodePacket_sensor smwp (.write t [x, d]) h

theorem decodePacket_sensorSend (smwp : Bool) {t : SmbAddr} (h : sensorMalformed t = none) (x : Byte) :
    decodePacket smwp (.write t [x]) = .instr (decodeSensorSend t x) :=
  decodePacket_sensor smwp (.write t [x]) h

theorem decodePacket_receiveByte (smwp : Bool) {t : SmbAddr} (h : sensorMalformed t = none) :
    decodePacket smwp (.read t 0) = .instr (.receiveByte t) :=
  decodePacket_sensor smwp (.read t 0) h

/-- A read command with no meaning is the reserved command of that packet (R450). -/
theorem decodeSensorRead_reserved {x : Byte} (h : isReadCommand x = false) (t : SmbAddr) :
    decodeSensorRead t x = .sensorReservedCommand t x .read := by
  simp only [isReadCommand, Bool.or_eq_false_iff, beq_eq_false_iff_ne, ne_eq] at h
  simp only [decodeSensorRead, h, if_false]

theorem decodeSensorWrite_reserved {x : Byte} (h : isWriteCommand x = false) (t : SmbAddr) (d : Byte) :
    decodeSensorWrite t x d = .sensorReservedCommand t x (.write d) := by
  simp only [isWriteCommand, Bool.or_eq_false_iff, beq_eq_false_iff_ne, ne_eq] at h
  simp only [decodeSensorWrite, h, if_false]

theorem decodeSensorSend_reserved {x : Byte} (h : isSendCommand x = false) (t : SmbAddr) :
    decodeSensorSend t x = .sensorReservedCommand t x .send := by
  simp only [isSendCommand, beq_eq_false_iff_ne, ne_eq] at h
  simp only [decodeSensorSend, h, if_false]

/-- A rule that is looked at before the others is kept, and so are they. -/
theorem ite_some_eq_none_iff {b : Bool} {x : Malformed} {o : Option Malformed} :
    (if b then some x else o) = none ↔ b = false ∧ o = none := by
  cases b <;> simp

theorem Instr.wf_iff (i : Instr) : i.wf = true ↔ i.malformed = none := Option.isNone_iff_eq_none

/-- Settles O1, one instruction at a time: the packet's shape, then its device, then its bytes. -/
theorem smbusPacketsRoundTrip : Obligations.SmbusPacketsRoundTrip := by
  intro c i items wf sent
  rw [Instr.wf_iff] at wf
  cases i
  case eeCurrentAddressRead sel =>
    cases sent
    rw [decode_packetRead, decodePacket_memoryAddress rfl, decodeMemoryPacket, addressSel_memoryAddress]
  case eeRandomRead sel da =>
    cases sent
    rw [decode_packetWriteRead, decodePacket_memoryAddress rfl, decodeMemoryPacket, addressSel_memoryAddress]
  case eeSequentialRead sel start more =>
    have acknowledged : more ≠ 0 := by simpa [Instr.malformed] using wf
    cases start <;> cases sent
    case none => rw [decode_packetRead, (decodePacket_sequentialRead acknowledged 0).1]
    case some da => rw [decode_packetWriteRead, (decodePacket_sequentialRead acknowledged da).2]
  case eeByteWrite sma da d =>
    cases sent
    rw [decode_packetWrite, decodePacket_memoryWrite, decodeMemoryWrite_cons]
    rfl
  case eePageWrite sma da data =>
    cases sent
    match data, wf with
    | d :: e :: more, _ =>
      rw [decode_packetWrite, decodePacket_memoryWrite, decodeMemoryWrite_cons]
      rfl
  case eeWriteToPirom sma da data | eeWriteProtected sma da data =>
    cases sent
    match data, wf with
    | d :: more, _ =>
      rw [decode_packetWrite, decodePacket_memoryWrite, decodeMemoryWrite_cons]
      rfl
  case rrt | rs | rc | rcr | rrhl | rrll =>
    cases sent
    rw [decode_packetWriteRead, decodePacket_sensorRead _ wf]
    rfl
  case wc | wcr =>
    cases sent
    rw [decode_packetWrite, decodePacket_sensorWrite _ (Option.or_eq_none_iff.mp wf).1]
    rfl
  case wrhl | wrll =>
    cases sent
    rw [decode_packetWrite, decodePacket_sensorWrite _ wf]
    rfl
  case osht t =>
    cases sent
    rw [decode_packetWrite, decodePacket_sensorSend _ wf]
    rfl
  case ara =>
    cases sent
    rw [decode_packetRead]
    rfl
  case receiveByte t =>
    cases sent
    rw [decode_packetRead, decodePacket_receiveByte _ wf]
  case sensorReservedCommand t x form =>
    obtain ⟨reserved, address⟩ := ite_some_eq_none_iff.mp wf
    cases form <;> cases sent
    case read => rw [decode_packetWriteRead, decodePacket_sensorRead _ address, decodeSensorRead_reserved reserved]
    case write d => rw [decode_packetWrite, decodePacket_sensorWrite _ address, decodeSensorWrite_reserved reserved]
    case send => rw [decode_packetWrite, decodePacket_sensorSend _ address, decodeSensorSend_reserved reserved]
  all_goals cases sent

end Sys2Proof
end

section
/-! PROOF. Bus requests round trip, in both directions (R160 to R164; O2, O3). A request word is taken as its six fields; a row
of Table A-10 is then a condition on each field, and the row's instruction holds the fields the row leaves open. -/

namespace Sys2Proof

/-! ### The six fields of a request word -/

theorem requestBits_eq_of_fields (w : BitVec 12) :
    requestBits (w.extractLsb' 11 1) (w.extractLsb' 9 2) (w.extractLsb' 6 3) (w.extractLsb' 5 1) (w.extractLsb' 3 2)
      (w.extractLsb' 0 3) = w := by
  unfold requestBits
  grind

section Fields
variable (a5 : BitVec 1) (a43 : BitVec 2) (a20 : BitVec 3) (b5 : BitVec 1) (b43 : BitVec 2) (b20 : BitVec 3)

theorem requestBits_reqa5 : (requestBits a5 a43 a20 b5 b43 b20).extractLsb' 11 1 = a5 := by
  unfold requestBits
  grind

theorem requestBits_reqa43 : (requestBits a5 a43 a20 b5 b43 b20).extractLsb' 9 2 = a43 := by
  unfold requestBits
  grind

theorem requestBits_reqa20 : (requestBits a5 a43 a20 b5 b43 b20).extractLsb' 6 3 = a20 := by
  unfold requestBits
  grind

theorem requestBits_reqb5 : (requestBits a5 a43 a20 b5 b43 b20).extractLsb' 5 1 = b5 := by
  unfold requestBits
  grind

theorem requestBits_reqb43 : (requestBits a5 a43 a20 b5 b43 b20).extractLsb' 3 2 = b43 := by
  unfold requestBits
  grind

theorem requestBits_reqb20 : (requestBits a5 a43 a20 b5 b43 b20).extractLsb' 0 3 = b20 := by
  unfold requestBits
  grind

/-- A word is given by its six fields. -/
theorem requestBits_eq_iff (w : BitVec 12) : requestBits a5 a43 a20 b5 b43 b20 = w ↔
    a5 = w.extractLsb' 11 1 ∧ a43 = w.extractLsb' 9 2 ∧ a20 = w.extractLsb' 6 3 ∧ b5 = w.extractLsb' 5 1 ∧
      b43 = w.extractLsb' 3 2 ∧ b20 = w.extractLsb' 0 3 := by
  constructor
  · rintro rfl
    exact ⟨(requestBits_reqa5 ..).symm, (requestBits_reqa43 ..).symm, (requestBits_reqa20 ..).symm,
      (requestBits_reqb5 ..).symm, (requestBits_reqb43 ..).symm, (requestBits_reqb20 ..).symm⟩
  · rintro ⟨rfl, rfl, rfl, rfl, rfl, rfl⟩
    exact requestBits_eq_of_fields w

/-- A word matches a row when each field does. -/
theorem RowBits.hits_requestBits (row : BusRow) (m5 v5 : BitVec 1) (m43 v43 : BitVec 2) (m20 v20 : BitVec 3)
    (n5 u5 : BitVec 1) (n43 u43 : BitVec 2) (n20 u20 : BitVec 3) :
    RowBits.hits ⟨row, requestBits m5 m43 m20 n5 n43 n20, requestBits v5 v43 v20 u5 u43 u20⟩
        (requestBits a5 a43 a20 b5 b43 b20) = true ↔
      a5 &&& m5 = v5 ∧ a43 &&& m43 = v43 ∧ a20 &&& m20 = v20 ∧ b5 &&& n5 = u5 ∧ b43 &&& n43 = u43 ∧
        b20 &&& n20 = u20 := by
  rw [RowBits.hits, beq_iff_eq, eq_comm, requestBits_eq_iff]
  simp only [BitVec.extractLsb'_and, requestBits_reqa5, requestBits_reqa43, requestBits_reqa20, requestBits_reqb5,
    requestBits_reqb43, requestBits_reqb20, eq_comm]

end Fields

/-- Table A-10 by fields: of each row which fields it gives, and as what. -/
theorem busRows_eq (c : OpenCells) : busRows c =
    [ ⟨.deferredReply, requestBits 1 3 7 1 0 0, requestBits 0 0 0 0 0 0⟩,
      ⟨.reserved000001, requestBits 1 3 7 1 0 0, requestBits 0 0 1 0 0 0⟩,
      ⟨.special, requestBits 1 3 7 1 0 7, requestBits 0 1 0 0 0 1⟩,
      ⟨.reserved00100001x, requestBits 1 3 7 1 0 6, requestBits 0 1 0 0 0 2⟩,
      ⟨.reserved0010010xx, requestBits 1 3 7 1 0 4, requestBits 0 1 1 0 0 0⟩,
      ⟨.interrupt, requestBits 1 3 7 1 0 7, requestBits 0 1 1 0 0 4⟩,
      ⟨.purgeTc, requestBits 1 3 7 1 0 7, requestBits 0 1 1 0 0 5⟩,
      ⟨.reserved00100111x, requestBits 1 3 7 1 0 6, requestBits 0 1 1 0 0 6⟩,
      ⟨.ioRead, requestBits 1 3 7 1 0 0, requestBits 0 2 0 0 0 0⟩,
      ⟨.ioWrite, requestBits 1 3 7 1 0 0, requestBits 0 2 1 0 0 0⟩,
      ⟨.reserved01100x, requestBits 1 3 6 1 0 0, requestBits 0 3 0 0 0 0⟩,
      ⟨.memReadInvalidate, requestBits 1 0 7 1 0 0, requestBits 0 0 2 0 0 0⟩,
      ⟨.reserved0Asz011, requestBits 1 0 7 1 0 0, requestBits 0 0 3 0 0 0⟩,
      ⟨.memRead, requestBits 1 0 5 1 0 0, requestBits 0 0 4 0 0 0⟩,
      ⟨.memWrite, requestBits 1 0 5 1 0 0, requestBits 0 0 5 0 0 0⟩,
      ⟨.interruptAcknowledge, requestBits 1 3 7 1 0 7, requestBits 0 1 0 0 0 c.intackReqbLow⟩,
      ⟨.memReadCurrent, requestBits 1 0 7 1 0 0, requestBits 1 0 c.currentReqaLow c.currentReqb5 0 0⟩,
      ⟨.reserved1Asz100, requestBits 1 0 7 1 0 0,
        requestBits c.reservedReqa5 0 c.reservedReqaLow c.reservedReqb5 0 0⟩,
      ⟨.cacheLineReplacement, requestBits 1 0 5 1 0 7,
        requestBits c.replacementReqa5 0 (c.replacementReqa2 ++ 0b0#1 ++ c.replacementReqa0) c.replacementReqb5 0 0⟩ ] :=
  rfl

/-! ### The instruction of a row -/

/-- The instruction a row stands for: of the fields ASZ, REQa[2:0] and REQb[2:0] it keeps what the row leaves open. -/
def BusRow.instr (r : Request) (asz : BitVec 2) (a20 b20 : BitVec 3) : BusRow → Instr
  | .deferredReply => .deferredReply r b20
  | .interruptAcknowledge => .interruptAcknowledge r
  | .special => .special r
  | .interrupt => .interrupt r
  | .purgeTc => .purgeTc r
  | .ioRead => .ioRead r b20
  | .ioWrite => .ioWrite r b20
  | .memReadInvalidate => .memReadInvalidate r asz b20
  | .memRead => .memRead r asz (a20.extractLsb' 1 1) b20
  | .memWrite => .memWrite r asz (a20.extractLsb' 1 1) b20
  | .memReadCurrent => .memReadCurrent r asz b20
  | .cacheLineReplacement => .cacheLineReplacement r asz (a20.extractLsb' 1 1)
  | .reserved000001 => .reservedReq000001 r b20
  | .reserved00100001x => .reservedReq00100001x r (b20.extractLsb' 0 1)
  | .reserved0010010xx => .reservedReq0010010xx r (b20.extractLsb' 0 2)
  | .reserved00100111x => .reservedReq00100111x r (b20.extractLsb' 0 1)
  | .reserved01100x => .reservedReq01100x r (a20.extractLsb' 0 1) b20
  | .reserved0Asz011 => .reservedReq0Asz011 r asz b20
  | .reserved1Asz100 => .reservedReq1Asz100 r asz b20

theorem BusRow.instr_request (row : BusRow) (r : Request) (asz : BitVec 2) (a20 b20 : BitVec 3) :
    (row.instr r asz a20 b20).request = some r := by
  cases row <;> rfl

/-- The request two clocks carry (R160). -/
def requestOfClocks (a b : ClockWord) : Request :=
  { addr := a.pins, b := clockB b.pins, dsz := (a.req ++ b.req : BitVec 12).extractLsb' 3 2 }

/-- Two clocks whose word is found in a row decode to the row's instruction (R164). -/
theorem decodeRequest_of_rowOf {c : OpenCells} {a b : ClockWord} {w : BitVec 12} {row : BusRow} (hw : a.req ++ b.req = w)
    (h : rowOf c w = some row) :
    decodeRequest c a b =
      .instr (row.instr (requestOfClocks a b) (w.extractLsb' 9 2) (w.extractLsb' 6 3) (w.extractLsb' 0 3)) := by
  have req1 : (w.extractLsb' 6 3).extractLsb' 1 1 = w.extractLsb' 7 1 := by grind
  have req0 : (w.extractLsb' 6 3).extractLsb' 0 1 = w.extractLsb' 6 1 := by grind
  have low1 : (w.extractLsb' 0 3).extractLsb' 0 1 = w.extractLsb' 0 1 := by grind
  have low2 : (w.extractLsb' 0 3).extractLsb' 0 2 = w.extractLsb' 0 2 := by grind
  simp only [decodeRequest, requestOfClocks, hw, h]
  cases row <;> simp only [BusRow.instr, req1, req0, low1, low2]

theorem exists_rowOf_of_decodeRequest {c : OpenCells} {a b : ClockWord} {i : Instr} (h : decodeRequest c a b = .instr i) :
    ∃ row, rowOf c (a.req ++ b.req) = some row := by
  cases row : rowOf c (a.req ++ b.req) with
  | none => simp [decodeRequest, row] at h
  | some x => exact ⟨x, rfl⟩

/-- The row a word is found to have is one of the table's, and the word matches it. -/
theorem exists_hits_of_rowOf {c : OpenCells} {w : BitVec 12} {row : BusRow} (h : rowOf c w = some row) :
    ∃ x ∈ busRows c, x.hits w = true ∧ x.row = row := by
  obtain ⟨x, found, rfl⟩ := Option.map_eq_some_iff.mp h
  exact ⟨x, List.mem_of_find?_eq_some found, List.find?_some (p := fun b : RowBits => b.hits w) found, rfl⟩

/-! ### The request bits of an instruction -/

theorem append_dsz_low (q : BitVec 6) (dsz : BitVec 2) (low : BitVec 3) :
    q ++ 0b0#1 ++ dsz ++ low = requestBits (q.extractLsb' 5 1) (q.extractLsb' 3 2) (q.extractLsb' 0 3) 0 dsz low := by
  unfold requestBits
  grind

theorem append_dsz_low_one (q : BitVec 6) (dsz k : BitVec 2) (x : BitVec 1) :
    q ++ 0b0#1 ++ dsz ++ k ++ x =
      requestBits (q.extractLsb' 5 1) (q.extractLsb' 3 2) (q.extractLsb' 0 3) 0 dsz (k ++ x) := by
  unfold requestBits
  grind

theorem append_dsz_low_two (q : BitVec 6) (dsz : BitVec 2) (k : BitVec 1) (x : BitVec 2) :
    q ++ 0b0#1 ++ dsz ++ k ++ x =
      requestBits (q.extractLsb' 5 1) (q.extractLsb' 3 2) (q.extractLsb' 0 3) 0 dsz (k ++ x) := by
  unfold requestBits
  grind

theorem append_reqa0 (q : BitVec 5) (x : BitVec 1) (dsz : BitVec 2) (low : BitVec 3) :
    q ++ x ++ 0b0#1 ++ dsz ++ low =
      requestBits (q.extractLsb' 4 1) (q.extractLsb' 2 2) (q.extractLsb' 0 2 ++ x) 0 dsz low := by
  unfold requestBits
  grind

theorem append_reqa1 (asz dsz : BitVec 2) (x k : BitVec 1) (low : BitVec 3) :
    0b0#1 ++ asz ++ 0b1#1 ++ x ++ k ++ 0b0#1 ++ dsz ++ low = requestBits 0 asz (0b1#1 ++ x ++ k) 0 dsz low := by
  unfold requestBits
  grind

/-- A row that gives all of a field: its mask there is all ones. -/
theorem and_one_bit (x : BitVec 1) : x &&& 1 = x := BitVec.and_allOnes

theorem and_two_bits (x : BitVec 2) : x &&& 3 = x := BitVec.and_allOnes

theorem and_three_bits (x : BitVec 3) : x &&& 7 = x := BitVec.and_allOnes

/-- A field of three bits of which a row leaves the lowest open. -/
theorem append_lowest_of_and {k : BitVec 2} {x : BitVec 3} (h : x &&& 6 = k ++ 0#1) : k ++ x.extractLsb' 0 1 = x := by
  revert k x
  decide

/-- A field of three bits of which a row leaves the lower two open. -/
theorem append_lower_of_and {k : BitVec 1} {x : BitVec 3} (h : x &&& 4 = k ++ 0#2) : k ++ x.extractLsb' 0 2 = x := by
  revert k x
  decide

/-- A field of three bits of which a row leaves the middle one open. -/
theorem append_middle_of_and {j k : BitVec 1} {x : BitVec 3} (h : x &&& 5 = j ++ 0#1 ++ k) :
    j ++ x.extractLsb' 1 1 ++ k = x := by
  revert j k x
  decide

/-- The instruction of a row that a word matches has that word as its request bits: what the row gives and what the
instruction keeps are together all of it. -/
theorem requestWord_instr (c : OpenCells) (r : Request) (a5 : BitVec 1) (asz : BitVec 2) (a20 : BitVec 3) (b5 : BitVec 1)
    (b20 : BitVec 3) : ∀ x ∈ busRows c, x.hits (requestBits a5 asz a20 b5 r.dsz b20) = true →
      requestWord c (x.row.instr r asz a20 b20) = requestBits a5 asz a20 b5 r.dsz b20 := by
  simp only [busRows_eq, List.forall_mem_cons, RowBits.hits_requestBits, and_one_bit, and_two_bits, and_three_bits,
    BusRow.instr, requestWord, append_dsz_low, append_dsz_low_one, append_dsz_low_two, append_reqa0, append_reqa1]
  refine ⟨?deferredReply, ?reserved000001, ?special, ?reserved00100001x, ?reserved0010010xx, ?interrupt, ?purgeTc,
    ?reserved00100111x, ?ioRead, ?ioWrite, ?reserved01100x, ?memReadInvalidate, ?reserved0Asz011, ?memRead, ?memWrite,
    ?interruptAcknowledge, ?memReadCurrent, ?reserved1Asz100, ?cacheLineReplacement, ?none⟩
  case deferredReply | reserved000001 | ioRead | ioWrite =>
    rintro ⟨rfl, rfl, rfl, rfl, -, -⟩
    rfl
  case special | interrupt | purgeTc | interruptAcknowledge =>
    rintro ⟨rfl, rfl, rfl, rfl, -, rfl⟩
    rfl
  case reserved00100001x | reserved00100111x =>
    rintro ⟨rfl, rfl, rfl, rfl, -, low⟩
    rw [append_lowest_of_and low]
    rfl
  case reserved0010010xx =>
    rintro ⟨rfl, rfl, rfl, rfl, -, low⟩
    rw [append_lower_of_and low]
    rfl
  case reserved01100x =>
    rintro ⟨rfl, rfl, upper, rfl, -, -⟩
    congr 1
    exact append_lowest_of_and upper
  case memReadInvalidate | reserved0Asz011 =>
    rintro ⟨rfl, -, rfl, rfl, -, -⟩
    rfl
  case memRead | memWrite =>
    rintro ⟨rfl, -, middle, rfl, -, -⟩
    rw [append_middle_of_and middle]
  case memReadCurrent | reserved1Asz100 =>
    rintro ⟨rfl, -, rfl, rfl, -, -⟩
    rfl
  case cacheLineReplacement =>
    rintro ⟨rfl, -, middle, rfl, -, rfl⟩
    rw [append_middle_of_and middle]
  case none => simp

/-- Settles O3: the row found for the word of the two clocks gives an instruction with that word as its request bits, and the
request beside them is taken over pin by pin. -/
theorem decodedRequestsEncodeBack : Obligations.DecodedRequestsEncodeBack := by
  intro c smwp a b i decoded
  obtain ⟨row, found⟩ := exists_rowOf_of_decodeRequest decoded
  obtain ⟨x, hx, hits, rfl⟩ := exists_hits_of_rowOf found
  set w : BitVec 12 := a.req ++ b.req with hw
  obtain rfl : x.row.instr (requestOfClocks a b) (w.extractLsb' 9 2) (w.extractLsb' 6 3) (w.extractLsb' 0 3) = i :=
    Decoded.instr.inj ((decodeRequest_of_rowOf rfl found).symm.trans decoded)
  rw [← requestBits_eq_of_fields w] at hits
  have word := (requestWord_instr c (requestOfClocks a b) _ _ _ _ _ x hx hits).trans (requestBits_eq_of_fields w)
  have req_a : w.extractLsb' 6 6 = a.req := by grind
  have req_b : w.extractLsb' 0 6 = b.req := by grind
  rw [Machine.encode_of_request c (BusRow.instr_request ..), word, encodeRequest, req_a, req_b]
  simp only [requestOfClocks, clockBPins_clockB]

/-! ### From an instruction to its row -/

/-- Every row of Table A-10 is one of the table's. -/
theorem exists_mem_busRows (c : OpenCells) (row : BusRow) : ∃ x ∈ busRows c, x.row = row := by
  cases row <;> simp [busRows_eq]

theorem extractLsb'_middle_append (j x k : BitVec 1) : (j ++ x ++ k : BitVec 3).extractLsb' 1 1 = x := by grind

theorem append_lowest_and (k : BitVec 2) (x : BitVec 1) : (k ++ x : BitVec 3) &&& 6 = k ++ 0#1 := by
  revert k x
  decide

theorem append_lower_and (k : BitVec 1) (x : BitVec 2) : (k ++ x : BitVec 3) &&& 4 = k ++ 0#2 := by
  revert k x
  decide

theorem append_middle_and (j x k : BitVec 1) : (j ++ x ++ k : BitVec 3) &&& 5 = j ++ 0#1 ++ k := by
  revert j x k
  decide

/-- An instruction that carries a request is that of some row. -/
theorem exists_row_of_request {i : Instr} {r : Request} (h : i.request = some r) :
    ∃ (row : BusRow) (asz : BitVec 2) (a20 b20 : BitVec 3), row.instr r asz a20 b20 = i := by
  cases i <;> cases h
  case deferredReply low => exact ⟨.deferredReply, 0, 0, low, rfl⟩
  case interruptAcknowledge => exact ⟨.interruptAcknowledge, 0, 0, 0, rfl⟩
  case special => exact ⟨.special, 0, 0, 0, rfl⟩
  case interrupt => exact ⟨.interrupt, 0, 0, 0, rfl⟩
  case purgeTc => exact ⟨.purgeTc, 0, 0, 0, rfl⟩
  case ioRead low => exact ⟨.ioRead, 0, 0, low, rfl⟩
  case ioWrite low => exact ⟨.ioWrite, 0, 0, low, rfl⟩
  case memReadInvalidate asz len => exact ⟨.memReadInvalidate, asz, 0, len, rfl⟩
  case memRead asz dc len =>
    exact ⟨.memRead, asz, 0#1 ++ dc ++ 0#1, len, congrArg (Instr.memRead r asz · len) (extractLsb'_middle_append ..)⟩
  case memWrite asz wsnp len =>
    exact ⟨.memWrite, asz, 0#1 ++ wsnp ++ 0#1, len, congrArg (Instr.memWrite r asz · len) (extractLsb'_middle_append ..)⟩
  case memReadCurrent asz len => exact ⟨.memReadCurrent, asz, 0, len, rfl⟩
  case cacheLineReplacement asz wsnp =>
    exact ⟨.cacheLineReplacement, asz, 0#1 ++ wsnp ++ 0#1, 0,
      congrArg (Instr.cacheLineReplacement r asz) (extractLsb'_middle_append ..)⟩
  case reservedReq000001 low => exact ⟨.reserved000001, 0, 0, low, rfl⟩
  case reservedReq00100001x x =>
    exact ⟨.reserved00100001x, 0, 0, 0#2 ++ x, congrArg (Instr.reservedReq00100001x r) BitVec.extractLsb'_append_eq_right⟩
  case reservedReq0010010xx x =>
    exact ⟨.reserved0010010xx, 0, 0, 0#1 ++ x, congrArg (Instr.reservedReq0010010xx r) BitVec.extractLsb'_append_eq_right⟩
  case reservedReq00100111x x =>
    exact ⟨.reserved00100111x, 0, 0, 0#2 ++ x, congrArg (Instr.reservedReq00100111x r) BitVec.extractLsb'_append_eq_right⟩
  case reservedReq01100x x low =>
    exact ⟨.reserved01100x, 0, 0#2 ++ x, low, congrArg (Instr.reservedReq01100x r · low) BitVec.extractLsb'_append_eq_right⟩
  case reservedReq0Asz011 asz len => exact ⟨.reserved0Asz011, asz, 0, len, rfl⟩
  case reservedReq1Asz100 asz len => exact ⟨.reserved1Asz100, asz, 0, len, rfl⟩

/-- Every instruction of a row is that of a word the row matches: the fields the row gives are free to be as it gives them. -/
theorem exists_hits_instr (c : OpenCells) (r : Request) (asz : BitVec 2) (a20 b20 : BitVec 3) :
    ∀ x ∈ busRows c, ∃ a5 asz' a20' b5 b20', x.hits (requestBits a5 asz' a20' b5 r.dsz b20') = true ∧
      x.row.instr r asz' a20' b20' = x.row.instr r asz a20 b20 := by
  simp only [busRows_eq, List.forall_mem_cons, RowBits.hits_requestBits, and_one_bit, and_two_bits, and_three_bits]
  refine ⟨?deferredReply, ?reserved000001, ?special, ?reserved00100001x, ?reserved0010010xx, ?interrupt, ?purgeTc,
    ?reserved00100111x, ?ioRead, ?ioWrite, ?reserved01100x, ?memReadInvalidate, ?reserved0Asz011, ?memRead, ?memWrite,
    ?interruptAcknowledge, ?memReadCurrent, ?reserved1Asz100, ?cacheLineReplacement, ?none⟩
  case deferredReply | reserved000001 | ioRead | ioWrite =>
    exact ⟨_, _, _, _, b20, ⟨rfl, rfl, rfl, rfl, BitVec.and_zero, BitVec.and_zero⟩, rfl⟩
  case special | interrupt | purgeTc | interruptAcknowledge =>
    exact ⟨_, _, _, _, _, ⟨rfl, rfl, rfl, rfl, BitVec.and_zero, rfl⟩, rfl⟩
  case reserved00100001x =>
    exact ⟨_, _, _, _, _, ⟨rfl, rfl, rfl, rfl, BitVec.and_zero, append_lowest_and 1 (b20.extractLsb' 0 1)⟩,
      congrArg _ BitVec.extractLsb'_append_eq_right⟩
  case reserved00100111x =>
    exact ⟨_, _, _, _, _, ⟨rfl, rfl, rfl, rfl, BitVec.and_zero, append_lowest_and 3 (b20.extractLsb' 0 1)⟩,
      congrArg _ BitVec.extractLsb'_append_eq_right⟩
  case reserved0010010xx =>
    exact ⟨_, _, _, _, _, ⟨rfl, rfl, rfl, rfl, BitVec.and_zero, append_lower_and 0 (b20.extractLsb' 0 2)⟩,
      congrArg _ BitVec.extractLsb'_append_eq_right⟩
  case reserved01100x =>
    exact ⟨_, _, _, _, b20, ⟨rfl, rfl, append_lowest_and 0 (a20.extractLsb' 0 1), rfl, BitVec.and_zero, BitVec.and_zero⟩,
      congrArg (Instr.reservedReq01100x r · b20) BitVec.extractLsb'_append_eq_right⟩
  case memReadInvalidate | reserved0Asz011 | memReadCurrent | reserved1Asz100 =>
    exact ⟨_, asz, _, _, b20, ⟨rfl, BitVec.and_zero, rfl, rfl, BitVec.and_zero, BitVec.and_zero⟩, rfl⟩
  case memRead =>
    exact ⟨_, asz, _, _, b20,
      ⟨rfl, BitVec.and_zero, append_middle_and 1 (a20.extractLsb' 1 1) 0, rfl, BitVec.and_zero, BitVec.and_zero⟩,
      congrArg (Instr.memRead r asz · b20) (extractLsb'_middle_append ..)⟩
  case memWrite =>
    exact ⟨_, asz, _, _, b20,
      ⟨rfl, BitVec.and_zero, append_middle_and 1 (a20.extractLsb' 1 1) 1, rfl, BitVec.and_zero, BitVec.and_zero⟩,
      congrArg (Instr.memWrite r asz · b20) (extractLsb'_middle_append ..)⟩
  case cacheLineReplacement =>
    exact ⟨_, asz, _, _, _,
      ⟨rfl, BitVec.and_zero, append_middle_and _ (a20.extractLsb' 1 1) _, rfl, BitVec.and_zero, rfl⟩,
      congrArg (Instr.cacheLineReplacement r asz) (extractLsb'_middle_append ..)⟩
  case none => simp

/-- What travels as two clocks carries a request. -/
theorem exists_request_of_encode {c : OpenCells} {i : Instr} {a b : ClockWord} (h : encode c i = .request a b) :
    ∃ r, i.request = some r := by
  cases i
  case eeSequentialRead sel start more => cases start <;> cases h
  case sensorReservedCommand t x form => cases form <;> cases h
  case deferredReply | interruptAcknowledge | special | interrupt | purgeTc | ioRead | ioWrite | memReadInvalidate |
      memRead | memWrite | memReadCurrent | cacheLineReplacement | reservedReq000001 | reservedReq00100001x |
      reservedReq0010010xx | reservedReq00100111x | reservedReq01100x | reservedReq0Asz011 | reservedReq1Asz100 =>
    exact ⟨_, rfl⟩
  all_goals cases h

/-- A word that a row matches, its instruction's request bits, is found to have that row where every word has one meaning
(R164). -/
theorem decode_encodeRequest {c : OpenCells} (legal : c.legal = true) (smwp : Bool) {x : RowBits} {r : Request}
    {a5 : BitVec 1} {asz : BitVec 2} {a20 : BitVec 3} {b5 : BitVec 1} {b20 : BitVec 3} (hx : x ∈ busRows c)
    (hits : x.hits (requestBits a5 asz a20 b5 r.dsz b20) = true) :
    decode c smwp (encodeRequest r (requestBits a5 asz a20 b5 r.dsz b20)) = .instr (x.row.instr r asz a20 b20) := by
  generalize hw : requestBits a5 asz a20 b5 r.dsz b20 = w at hits ⊢
  obtain ⟨-, rfl, rfl, -, dsz, rfl⟩ := (requestBits_eq_iff _ _ _ _ _ _ w).mp hw
  let clock_a : ClockWord := { pins := r.addr, req := w.extractLsb' 6 6 }
  let clock_b : ClockWord := { pins := clockBPins r.b, req := w.extractLsb' 0 6 }
  have word : clock_a.req ++ clock_b.req = w := requestBits_split w
  have same : requestOfClocks clock_a clock_b = r := by
    simp only [requestOfClocks, word, ← dsz, clock_a, clock_b, clockB_clockBPins]
  have decoded := decodeRequest_of_rowOf word (rowOf_of_legal legal hx hits)
  rw [same] at decoded
  exact decoded

/-- Settles O2: an instruction's request bits match its row, which is the only one they match. -/
theorem busRequestsRoundTrip : Obligations.BusRequestsRoundTrip := by
  intro c i a b smwp legal _ sent
  obtain ⟨r, request⟩ := exists_request_of_encode sent
  obtain ⟨row, asz₀, a20₀, b20₀, rfl⟩ := exists_row_of_request request
  obtain ⟨x, hx, rfl⟩ := exists_mem_busRows c row
  obtain ⟨a5, asz, a20, b5, b20, hits, same⟩ := exists_hits_instr c r asz₀ a20₀ b20₀ x hx
  rw [← same] at sent request ⊢
  rw [← sent, Machine.encode_of_request c request, requestWord_instr c r a5 asz a20 b5 b20 x hx hits]
  exact decode_encodeRequest legal smwp hx hits

end Sys2Proof
end

section
/-! PROOF. Special transactions by their code and core instructions by their name round trip (R140, R170; O4), and words
written out from the encoding tables (R142 to R161; O5). -/

namespace Sys2Proof

/-! ### The code of a special transaction -/

/-- The special transaction of a kind (R170). -/
def SpecialKind.instr (r : Request) : SpecialKind → Instr
  | .nop => .specialNop r
  | .shutdown => .specialShutdown r
  | .flush => .specialFlush r
  | .halt => .specialHalt r
  | .sync => .specialSync r
  | .stopgrantAck => .specialStopgrantAck r
  | .xtprUpdate => .specialXtprUpdate r
  | .reserved => .specialReserved r

theorem SpecialKind.malformed_instr (k : SpecialKind) (r : Request) : (k.instr r).malformed = specialMalformed k r := by
  cases k <;> rfl

theorem exists_special_of_encode {c : OpenCells} {i : Instr} {r : Request} (h : encode c i = .special r) :
    ∃ k : SpecialKind, k.instr r = i := by
  cases i
  case eeSequentialRead sel start more => cases start <;> cases h
  case sensorReservedCommand t x form => cases form <;> cases h
  case specialNop => cases h; exact ⟨.nop, rfl⟩
  case specialShutdown => cases h; exact ⟨.shutdown, rfl⟩
  case specialFlush => cases h; exact ⟨.flush, rfl⟩
  case specialHalt => cases h; exact ⟨.halt, rfl⟩
  case specialSync => cases h; exact ⟨.sync, rfl⟩
  case specialStopgrantAck => cases h; exact ⟨.stopgrantAck, rfl⟩
  case specialXtprUpdate => cases h; exact ⟨.xtprUpdate, rfl⟩
  case specialReserved => cases h; exact ⟨.reserved, rfl⟩
  all_goals cases h

/-- A well-formed special transaction has the code of its kind, a reserved one a code that names nothing (R170). -/
theorem code_of_specialMalformed {k : SpecialKind} {r : Request} (h : specialMalformed k r = none) :
    k.code = some r.b.be ∨ k = .reserved ∧ isSpecialCode r.b.be = false := by
  unfold specialMalformed at h
  split at h
  · rename_i code
    exact .inl (beq_iff_eq.mp code)
  · split at h
    · rename_i reserved
      simpa using Or.inr reserved
    · cases h

theorem decodeSpecial_of_code {k : SpecialKind} {r : Request} (h : k.code = some r.b.be) : decodeSpecial r = k.instr r := by
  cases k
  case reserved => cases h
  all_goals
    have code := Option.some.inj h
    simp [decodeSpecial, ← code, SpecialKind.instr]

theorem decodeSpecial_of_not_code {r : Request} (h : isSpecialCode r.b.be = false) : decodeSpecial r = .specialReserved r := by
  simp only [isSpecialCode, Bool.or_eq_false_iff, beq_eq_false_iff_ne, ne_eq] at h
  simp only [decodeSpecial, h, if_false]

theorem decodeSpecial_of_wf {k : SpecialKind} {r : Request} (h : (k.instr r).wf = true) : decodeSpecial r = k.instr r := by
  rw [Instr.wf_iff, SpecialKind.malformed_instr] at h
  rcases code_of_specialMalformed h with code | ⟨rfl, no_code⟩
  · exact decodeSpecial_of_code code
  · exact decodeSpecial_of_not_code no_code

/-! ### The names of the core instructions -/

theorem isCore_of_encode_named {c : OpenCells} {i j : Instr} (h : encode c i = .named j) : i.isCore = true := by
  rcases Machine.encode_cases c i with ⟨items, packet⟩ | ⟨r, w, request⟩ | ⟨r, special⟩ | core
  · cases packet.symm.trans h
  · cases request.symm.trans h
  · cases special.symm.trans h
  · exact core

/-- Settles O4: a special transaction's code is that of its kind, a core instruction's name is its own. -/
theorem specialsAndNamedRoundTrip : Obligations.SpecialsAndNamedRoundTrip := by
  rintro c i smwp wf (⟨r, special⟩ | named)
  · obtain ⟨k, rfl⟩ := exists_special_of_encode special
    rw [special]
    exact congrArg Decoded.instr (decodeSpecial_of_wf wf)
  · rw [named]
    simp [decode, isCore_of_encode_named named]

/-! ### Words of the tables -/

/-- Settles O5, word by word: a packet is read as it stands, and the request words match rows that no lost cell touches. -/
theorem wordsDecode : Obligations.WordsDecode := by
  intro c
  have read_row := rowOf_memRead c 0b01 0b01 1 0b100
  have purge_row : rowOf c 0x24D = some .purgeTc := rowOf_fixed (x := ⟨.purgeTc, 0xFE7, 0x245⟩) (by decide)
  have read := decodeRequest_of_rowOf (a := ⟨0x10, 0b001110⟩) (b := ⟨0, 0b001100⟩) rfl read_row
  have purge := decodeRequest_of_rowOf (a := ⟨0, 0b001001⟩) (b := ⟨0, 0b001101⟩) rfl purge_row
  exact ⟨rfl, rfl, rfl, rfl, ⟨_, read⟩, ⟨_, purge⟩⟩

end Sys2Proof
end

section
/-! PROOF. Which address byte selects which device (R65, R142, R143, R384, R432; O14). -/

namespace Sys2Proof.Machine

theorem isMemoryAddress_byteAddress_iff (b : Byte) :
    isMemoryAddress (byteAddress b) = true ↔ b.extractLsb' 4 4 = 0b1010#4 := by
  have upper : (byteAddress b).extractLsb' 3 4 = b.extractLsb' 4 4 := by
    unfold byteAddress
    grind
  rw [isMemoryAddress, upper, beq_iff_eq]

theorem appendBits_inj {n m : Nat} (x y : BitVec n) (p q : BitVec m) : x ++ p = y ++ q ↔ x = y ∧ p = q := by
  constructor
  · intro h
    have upper := congrArg (·.extractLsb' m n) h
    have lower := congrArg (·.extractLsb' 0 m) h
    simp only [BitVec.extractLsb'_append_eq_left] at upper
    simp only [BitVec.extractLsb'_append_eq_right] at lower
    exact ⟨upper, lower⟩
  · rintro ⟨rfl, rfl⟩
    rfl

/-- The SMA bits of an address byte are the straps' when each is (R142). -/
theorem addressSel_sma_eq_smaBits_iff (b : Byte) (p : Platform) :
    (addressSel (byteAddress b)).sma = smaBits p ↔ b.getLsbD 3 = p.sma1 ∧ b.getLsbD 2 = p.sma0 := by
  have bits : (addressSel (byteAddress b)).sma = BitVec.ofBool (b.getLsbD 3) ++ BitVec.ofBool (b.getLsbD 2) := by
    unfold addressSel byteAddress
    grind
  rw [bits, smaBits, appendBits_inj, BitVec.ofBool_eq_iff_eq, BitVec.ofBool_eq_iff_eq]

theorem addressSel_pirom_byteAddress (b : Byte) : (addressSel (byteAddress b)).pirom = b.getLsbD 1 := by
  unfold addressSel byteAddress
  grind

/-- An address byte is the sensor's when its pattern, its SMA2 bits and its SMA1 bit are (R143, R432). -/
theorem byteAddress_eq_sensorAddress_iff (b : Byte) (sma2 : Strap3) (sma1 : Bool) :
    byteAddress b = sensorAddress sma2 sma1 ↔
      b.extractLsb' 4 4 = sensorUpper sma2 ∧ b.getLsbD 3 = sma2.isHigh ∧ b.getLsbD 2 = sma1 ∧
        b.getLsbD 1 = (sma2 == .floating) := by
  have bits : byteAddress b = b.extractLsb' 4 4 ++ BitVec.ofBool (b.getLsbD 3) ++ BitVec.ofBool (b.getLsbD 2) ++
      BitVec.ofBool (b.getLsbD 1) := by
    unfold byteAddress
    grind
  rw [bits, sensorAddress, appendBits_inj, appendBits_inj, appendBits_inj]
  simp only [BitVec.ofBool_eq_iff_eq, and_assoc]

/-- Settles O14: a device answers with power and at its own address, bit by bit. -/
theorem deviceAddresses : Obligations.DeviceAddresses := by
  refine ⟨fun s b => ⟨?memory, addressSel_pirom_byteAddress b⟩, fun s b => ?sensor⟩
  case memory =>
    rw [Bool.and_eq_true, isMemoryAddress_byteAddress_iff, selects, Bool.and_eq_true, beq_iff_eq,
      addressSel_sma_eq_smaBits_iff]
    exact and_left_comm
  case sensor =>
    rw [sensorSelects, Bool.and_eq_true, beq_iff_eq, byteAddress_eq_sensorAddress_iff]
    cases s.platform.sma2 <;> exact Iff.rfl

end Sys2Proof.Machine
end

section
/-! PROOF. A step runs what is fetched and decoded (R164, R622, R660, R720; O6). -/

namespace Sys2Proof.Machine

theorem step_special {s : State} {r : Request} (h : s.special = some r) :
    step s = exec (decodeSpecial r) { s with special := none } := by
  unfold step runNext
  rw [h]
  rfl

/-! ### The latch of clock a during a clock -/

theorem Bus.arbitrateClock_latchA (b : Bus) (br : BitVec 3) : (b.arbitrateClock br).latchA = b.latchA := by
  unfold Bus.arbitrateClock Bus.arbitrate
  repeat' split
  all_goals rfl

theorem deferredPhase_latchA (q : Pins) (s : State) : (deferredPhase q s).bus.latchA = s.bus.latchA := by
  unfold deferredPhase
  rcases matchDeferred_cases q s.bus with ⟨_, _, _, _, _, taken⟩ | ⟨_, same⟩
  · simp only [taken]
  · simp only [same]

theorem snoopPhase_latchA (q : Pins) (s : State) : (snoopPhase q s).bus.latchA = s.bus.latchA := by
  unfold snoopPhase
  split <;> rfl

theorem dataPhase_latchA (q : Pins) (s : State) : (dataPhase q s).bus.latchA = s.bus.latchA := by
  unfold dataPhase
  split <;> rfl

theorem retire_latchA (s : State) : (retire s).bus.latchA = s.bus.latchA := by
  unfold retire
  repeat' split
  all_goals rfl

theorem startRequest_latchA (c : OpenCells) (b : Bus) (q : OutReq) (rest : List OutReq) (tid : BitVec 5) :
    (startRequest c b q rest tid).latchA = b.latchA := by
  dsimp only [startRequest]
  split <;> rfl

theorem issueStep_latchA (q : Pins) (s : State) : (issueStep q s).bus.latchA = s.bus.latchA := by
  rcases issueStep_cases q s with same | ⟨_, _, clock_b⟩ | ⟨_, _, _, _, _, _, _, _, clock_a⟩
  · rw [same]
  · rw [clock_b]
  · rw [clock_a]
    exact startRequest_latchA ..

/-- No phase of a clock before its request phase touches the latch of clock a (R160, R622). -/
theorem clockPrologue_latchA (p : Pins) (s : State) : (clockPrologue p s).bus.latchA = s.bus.latchA := by
  have arbitrated (b : Bus) (berr : Bool) (q : Pins) :
      (((b.freshOut berr).arbitrateClock q.br).sampleFlags q).latchA = b.latchA :=
    Bus.arbitrateClock_latchA (b.freshOut berr) q.br
  have answered (q : Pins) (s : State) : (responsePhase q s).bus.latchA = s.bus.latchA := rfl
  have sampled (q : Pins) (s : State) : (samplePins q s).bus.latchA = s.bus.latchA := rfl
  have requested (b : Bus) (q : Pins) : (b.driveBreq q).latchA = b.latchA := rfl
  simp only [clockPrologue, clockPhases, requested, issueStep_latchA, retire_latchA, dataPhase_latchA, answered,
    snoopPhase_latchA, deferredPhase_latchA, sampleTnd_bus, arbitrated, sampleBerr_bus, sampled]

/-! ### The request phase -/

/-- A clock that the processor takes part in, with no contention, no BINIT# observed and no parity error that stops it, comes to
its request phase. -/
theorem runClock_eq_requestPhase {s : State} {p : Pins} (on_bus : s.onBus = true) (one_driver : contention s p = false)
    (no_binit : (merged s p).binit = false ∨ s.bus.poc.opts.binitObserve = false)
    (parity : parityError s (merged s p) = false ∨ s.bus.poc.opts.berrOnBus = true) :
    runClock p s = requestPhase (merged s p) (clockPrologue p s) := by
  have not_reset : ((merged s p).binit && s.bus.poc.opts.binitObserve) = false := by
    rcases no_binit with h | h <;> simp [h]
  have not_stopped : (parityError s (merged s p) && !s.bus.poc.opts.berrOnBus) = false := by
    rcases parity with h | h <;> simp [h]
  simp [runClock, on_bus, one_driver, not_reset, not_stopped]

/-- Clock b with a latched clock a is decoded and run (R164). -/
theorem requestPhase_of_decode {q : Pins} {s : State} {a : ClockWord} {i : Instr} (latched : s.bus.latchA = some a)
    (decoded : decode s.platform.cells s.platform.smwp (.request a { pins := q.a, req := q.req }) = .instr i) :
    requestPhase q s = exec i { s with bus := { s.bus with latchA := none } } := by
  simp only [requestPhase, latched, decoded]

theorem runCore_of_ready {s : State} {i : Instr} (core : i.isCore = true) (ready : s.coreReady = true) :
    runCore i s = exec i s := by
  simp [runCore, decode, core, ready]

/-- Settles O6, one way of fetching at a time. -/
theorem stepRunsTheDecodedInstruction : Obligations.StepRunsTheDecodedInstruction := by
  refine ⟨fun s items rest i next decoded => ?packet, fun s r special => step_special special,
    fun s p rest a i next on_bus one_driver no_binit parity latched decoded => ?clock,
    fun s i rest next core ready => ?core⟩
  case packet =>
    rw [step_next next]
    exact congrArg (runPacket · _) decoded
  case clock =>
    have phase := runClock_eq_requestPhase (s := { s with inputs := rest }) on_bus one_driver no_binit parity
    have still_latched := (clockPrologue_latchA p { s with inputs := rest }).trans latched
    rw [← clockPrologue_platform p { s with inputs := rest }] at decoded
    exact ⟨_, rfl, (step_next next).trans (phase.trans (requestPhase_of_decode still_latched decoded))⟩
  case core =>
    rw [step_next next]
    exact runCore_of_ready core ready

end Sys2Proof.Machine
end

section
/-! PROOF. What HIT# and HITM# tell of the line being snooped, and what the snoop phase records (R119, R165, R174, R623, R661;
O52). -/

namespace Sys2Proof.Machine

/-! ### The queue -/

theorem updateFirst_append_cons {α : Type} {p : α → Bool} {x : α} {pre : List α} (before : ∀ y ∈ pre, p y = false)
    (hx : p x = true) (f : α → α) (post : List α) :
    updateFirst p f (pre ++ x :: post) = pre ++ f x :: post := by
  induction pre with
  | nil => simp [updateFirst, hx]
  | cons y pre ih =>
    have hy : p y = false := before y List.mem_cons_self
    simp [updateFirst, hy, ih fun z hz => before z (List.mem_cons_of_mem y hz)]

/-- The snoop phases occur in queue order: every transaction before the head has its result (R600). -/
theorem exists_ioq_of_snoopHead {b : Bus} {x : Txn} (h : snoopHead b = some x) :
    ∃ pre post, b.ioq = pre ++ x :: post ∧ (∀ y ∈ pre, y.snoop.isSome = true) ∧ x.snoop.isNone = true := by
  obtain ⟨outstanding, pre, post, queue, before⟩ := List.find?_eq_some_iff_append.mp h
  exact ⟨pre, post, queue, fun y hy => by simpa using before y hy, outstanding⟩

/-! ### What this processor holds -/

/-- The line a snoop finds held modified is the one supplied (R119, R623). -/
def CacheLine.supply (c : CacheLine) : Option LineData := if c.modified then some c.data else none

section Head
variable {s : State} {x : Txn}

/-- A transaction of another agent that is snooped is answered by what this processor holds of its line (R119). -/
theorem ownSnoop_eq_map (head : snoopHead s.bus = some x) (snooped : x.snooped = true)
    (other : x.req.isOwn s.bus.arbId = false) :
    ownSnoop s = (holdsLine s (lineOf x.req.addr)).map fun c => (x, c) := by
  simp [ownSnoop, head, snooped, other]

theorem hitOut_iff (head : snoopHead s.bus = some x) (snooped : x.snooped = true)
    (other : x.req.isOwn s.bus.arbId = false) :
    hitOut s = true ↔ x.keepsLine = true ∧ ∃ c, holdsLine s (lineOf x.req.addr) = some c ∧ c.modified = false := by
  rw [hitOut, ownSnoop_eq_map head snooped other]
  cases holdsLine s (lineOf x.req.addr) <;> simp [and_comm]

theorem suppliedLine_eq_bind (head : snoopHead s.bus = some x) (snooped : x.snooped = true)
    (other : x.req.isOwn s.bus.arbId = false) :
    suppliedLine s = (holdsLine s (lineOf x.req.addr)).bind CacheLine.supply := by
  rw [suppliedLine, ownSnoop_eq_map head snooped other]
  cases holdsLine s (lineOf x.req.addr) <;> rfl

theorem hitmOut_iff (head : snoopHead s.bus = some x) (snooped : x.snooped = true)
    (other : x.req.isOwn s.bus.arbId = false) :
    hitmOut s = true ↔ ∃ c, holdsLine s (lineOf x.req.addr) = some c ∧ c.modified = true := by
  rw [hitmOut, suppliedLine_eq_bind head snooped other]
  cases holdsLine s (lineOf x.req.addr) <;> simp [CacheLine.supply]

end Head

/-- Which transactions leave an unmodified line where it is (R608, R611, R661, log 17). -/
theorem Txn.keepsLine_iff {x : Txn} (row : x.row = .memRead ∨ x.row = .memReadInvalidate ∨ x.row = .memReadCurrent ∨
      ((x.row = .memWrite ∨ x.row = .cacheLineReplacement) ∧ x.req1 = true)) :
    x.keepsLine = true ↔
      (x.row = .memRead ∨ x.row = .memReadCurrent ∨ x.row = .cacheLineReplacement) ∧ x.req.b.fcl = false := by
  rcases row with row | row | row | ⟨row | row, -⟩ <;> simp [Txn.keepsLine, row]

theorem Txn.snooped_of_row {x : Txn} (row : x.row = .memRead ∨ x.row = .memReadInvalidate ∨ x.row = .memReadCurrent ∨
      ((x.row = .memWrite ∨ x.row = .cacheLineReplacement) ∧ x.req1 = true)) : x.snooped = true := by
  rcases row with row | row | row | ⟨row | row, req1⟩ <;> simp [Txn.snooped, row]
  all_goals exact req1

/-! ### The snoop phase -/

theorem snoopPhase_stalled {q : Pins} (hit : q.hit = true) (hitm : q.hitm = true) (s : State) : snoopPhase q s = s := by
  simp [snoopPhase, hit, hitm]

/-- A snoop phase that is not stalled records its result in the head of the queue (R623). -/
theorem snoopPhase_of_head {q : Pins} {s : State} {x : Txn} (phase : q.snoopPhase = true)
    (not_stalled : ¬(q.hit = true ∧ q.hitm = true)) (head : snoopHead s.bus = some x) :
    ∃ pre post, s.bus.ioq = pre ++ x :: post ∧ (∀ y ∈ pre, y.snoop.isSome = true) ∧
      snoopPhase q s = { s with bus := { s.bus with ioq := pre ++ x.snoopedAs q (suppliedLine s) :: post } } := by
  obtain ⟨pre, post, queue, before, outstanding⟩ := exists_ioq_of_snoopHead head
  have recorded := updateFirst_append_cons (p := fun t : Txn => t.snoop.isNone)
    (fun y hy => by simpa using before y hy) outstanding (Txn.snoopedAs q (suppliedLine s)) post
  refine ⟨pre, post, queue, before, ?_⟩
  simp [snoopPhase, phase, not_stalled, queue, recorded]

/-- Settles O52: the pins are read off what `ownSnoop` finds, the recorded transaction off `Txn.snoopedAs`. -/
theorem snoopResults : Obligations.SnoopResults := by
  intro s x q held head other row held_eq
  have holds : holdsLine s (lineOf x.req.addr) = held := held_eq.symm
  have snooped := Txn.snooped_of_row row
  refine ⟨?hit, ?hitm, fun _ hit hitm => snoopPhase_stalled hit hitm s, fun phase not_stalled => ?recorded⟩
  case hit => rw [hitOut_iff head snooped other, Txn.keepsLine_iff row, holds, and_assoc]
  case hitm => rw [hitmOut_iff head snooped other, holds]
  case recorded =>
    obtain ⟨pre, post, queue, before, phase_eq⟩ := snoopPhase_of_head phase not_stalled head
    refine ⟨pre, post, _, queue, before, rfl, phase_eq.trans ?_⟩
    have supply : suppliedLine s = held.bind CacheLine.supply := holds ▸ suppliedLine_eq_bind head snooped other
    rw [hitmOut, supply, Txn.snoopedAs]
    cases held with
    | none => rfl
    | some c => cases modified : c.modified <;> simp [CacheLine.supply, modified]

end Sys2Proof.Machine
end

section
/-! PROOF. The release of RESET# (R111, R177, R361, R365, R631, R776, R779 to R781, R803; O59): the checks in their order, then
what the thermal monitor makes of the processor that comes out of reset. -/

namespace Sys2Proof.Machine

/-! ### PAL code and identity -/

theorem Memory.holds_iff (m : Memory) (a : Nat) (bs : List Byte) :
    m.holds a bs = true ↔ ∀ k < bs.length, m.read (a + k) = bs.getD k 0 := by
  induction bs generalizing a with
  | nil => simp [Memory.holds]
  | cons b bs ih =>
    simp only [Memory.holds, Bool.and_eq_true, beq_iff_eq, ih, List.length_cons, Nat.forall_lt_succ_left',
      List.getD_cons_zero, List.getD_cons_succ, Nat.add_zero, Nat.add_assoc, Nat.add_comm 1]

theorem palPresent_iff (s : State) (r : ResetRelease) :
    palPresent s r = true ↔
      r.pal ≠ [] ∧ ∀ k < r.pal.length, s.mem.read (Config.resetVector.toNat + k) = r.pal.getD k 0 := by
  rw [palPresent, Bool.and_eq_true, Memory.holds_iff]
  simp

/-- Table A-6, forwards (R177, R631). -/
theorem identityOf_of_mem {br : BitVec 4} {x : BitVec 4 × BitVec 2 × Nat}
    (hx : x ∈ [((0b0001 : BitVec 4), (0 : BitVec 2), 0), (0b1000, 1, 2), (0b0100, 2, 4), (0b0010, 3, 6)])
    (h : br = x.1) : identityOf br = some x.2.1 ∧ agentIdOf x.2.1 = x.2.2 := by
  subst h
  revert x
  decide

/-- None or several BR pins asserted give no identity (R631). -/
theorem identityOf_eq_none {br : BitVec 4} (h : br ∉ [(0b0001 : BitVec 4), 0b1000, 0b0100, 0b0010]) :
    identityOf br = none := by
  revert br
  decide

theorem resetPc_toNat : Config.resetPc.toNat = Config.resetVector.toNat := by
  simp [Config.resetPc]
  omega

/-! ### The checks -/

section Checks
variable {s : State} {r : ResetRelease} (in_reset : s.bus.inReset = true) (timing : resetTimingOk s r = true)
include in_reset timing

theorem resetRelease_busRatio (ratio : ratioOk s.platform.sku r.ratioPins = false) :
    resetRelease r s = .refused .busRatio := by
  simp [resetRelease, in_reset, timing, ratio]

variable (ratio : ratioOk s.platform.sku r.ratioPins = true)
  (cool : s.thermal.afterTrip = true → r.tcase < tcaseMax s.platform.sku)
include ratio cool

theorem resetRelease_noPalCode (pal : palPresent s r = false) : resetRelease r s = .refused .noPalCode := by
  have not_hot : (s.thermal.afterTrip && !decide (r.tcase < tcaseMax s.platform.sku)) = false := by simpa using cool
  simp [resetRelease, in_reset, timing, ratio, not_hot, pal]

theorem resetRelease_identity (pal : palPresent s r = true) (br : identityOf r.br = none) :
    resetRelease r s = .refused .identity := by
  have not_hot : (s.thermal.afterTrip && !decide (r.tcase < tcaseMax s.platform.sku)) = false := by simpa using cool
  simp [resetRelease, in_reset, timing, ratio, not_hot, pal, br]

theorem resetRelease_released (pal : palPresent s r = true) {a : BitVec 2} (br : identityOf r.br = some a) :
    resetRelease r s = .next (thermalStep 0 (released s r a)) := by
  have not_hot : (s.thermal.afterTrip && !decide (r.tcase < tcaseMax s.platform.sku)) = false := by simpa using cool
  simp [resetRelease, in_reset, timing, ratio, not_hot, pal, br]

end Checks

theorem powered_of_resetTimingOk {s : State} {r : ResetRelease} (h : resetTimingOk s r = true) : s.powered = true := by
  simp only [resetTimingOk, Bool.and_eq_true] at h
  simp only [h]

/-! ### What the thermal monitor makes of it -/

/-- ETM moves between its modes and counts the time below its threshold; nothing else of the monitor (R361, R363). -/
theorem Thermal.etm_frame (x : Thermal) (d : Int) (us : Nat) :
    (x.etm d us).1 = { x with mode := (x.etm d us).1.mode, belowTime := (x.etm d us).1.belowTime } := by
  unfold Thermal.etm
  dsimp only
  (repeat' split) <;> rfl

theorem Thermal.etm_afterTrip (x : Thermal) (d : Int) (us : Nat) : (x.etm d us).1.afterTrip = x.afterTrip := by
  rw [Thermal.etm_frame]

theorem Thermal.etm_thrmtrip (x : Thermal) (d : Int) (us : Nat) : (x.etm d us).1.thrmtrip = x.thrmtrip := by
  rw [Thermal.etm_frame]

/-- From its normal state the monitor enters ETM where it is enabled and the die is above the entry temperature (R361). -/
theorem Thermal.etm_mode_of_normal {x : Thermal} (normal : x.mode = .normal) (d : Int) (us : Nat) :
    (x.etm d us).1.mode = if x.etmEnabled = true ∧ Config.tEtmEntry < d then .etmLowPower else .normal := by
  unfold Thermal.etm
  cases x.etmEnabled with
  | false => simp [normal]
  | true => by_cases hot : Config.tEtmEntry < d <;> simp [normal, hot]

/-- Neither ETM nor a trip touches the configuration and the identity (R365, log 18). -/
theorem thermalStep_identity (us : Nat) (s : State) :
    (thermalStep us s).bus.poc = s.bus.poc ∧ (thermalStep us s).bus.arbId = s.bus.arbId := by
  rcases thermalStep_cases us s with step | step | step | step <;> rw [step] <;> exact ⟨rfl, rfl⟩

theorem thermalStep_afterTrip (us : Nat) (s : State) : (thermalStep us s).thermal.afterTrip = s.thermal.afterTrip := by
  rcases thermalStep_cases us s with step | step | step | step <;> rw [step]
  · rfl
  · exact Thermal.etm_afterTrip ..
  · exact Thermal.etm_afterTrip ..

/-- A processor out of reset whose die is above the trip point trips at once (R360, R365). -/
theorem thermalStep_hot {s : State} (running : s.bus.inReset = false) (powered : s.powered = true)
    (not_tripped : s.thermal.mode ≠ .tripped) (hot : Config.tTrip < s.platform.dieTemp) (us : Nat) :
    thermalStep us s = thermalTrip s := by
  simp [thermalStep, running, powered, not_tripped, hot]

/-- At any other die temperature the monitor evaluates ETM (R360, R361). -/
theorem thermalStep_thermal_of_cool {s : State} (running : s.bus.inReset = false) (powered : s.powered = true)
    (not_tripped : s.thermal.mode ≠ .tripped) (cool : s.platform.dieTemp ≤ Config.tTrip) (us : Nat) :
    (thermalStep us s).thermal = (s.thermal.etm s.platform.dieTemp us).1 := by
  simp [thermalStep, running, powered, not_tripped, Int.not_lt.mpr cool]

/-- A processor that does not trip keeps its bus agent, and of its core all but the CMCIs pending (R364). -/
theorem thermalStep_frame_of_not_hot {s : State} (cool : s.thermal.mode = .tripped ∨ s.platform.dieTemp ≤ Config.tTrip)
    (us : Nat) :
    (thermalStep us s).bus = s.bus ∧
      (thermalStep us s).core = { s.core with pending := (thermalStep us s).core.pending } := by
  unfold thermalStep
  split
  · exact ⟨rfl, rfl⟩
  · split
    · exact ⟨rfl, rfl⟩
    · rename_i not_tripped
      rw [if_neg (Int.not_lt.mpr (cool.resolve_left not_tripped))]
      refine ⟨rfl, ?_⟩
      dsimp only
      split <;> rfl

/-! ### The processor out of reset -/

/-- The configuration, the identity and what lies outside the processor, at whatever die temperature (R776, R782). -/
theorem thermalStep_released_outside {s t : State} {r : ResetRelease} {a : BitVec 2}
    (h : t = thermalStep 0 (released s r a)) :
    t.bus.arbId = a ∧ t.bus.inReset = false ∧ t.bus.poc.opts = r.opts ∧ t.bus.poc.ratio = ratioOf s.platform.sku ∧
      t.mem = s.mem ∧ SmbusSame s t ∧ t.thermal.afterTrip = false := by
  subst h
  obtain ⟨poc, arbId⟩ := thermalStep_identity 0 (released s r a)
  refine ⟨arbId, thermalStep_bus_inReset .., by rw [poc]; rfl, by rw [poc]; rfl, thermalStep_mem ..,
    ⟨thermalStep_pirom .., thermalStep_scratch .., thermalStep_sensor ..⟩, thermalStep_afterTrip ..⟩

/-- The release touches none of the items RESET# has held, and a step of the monitor that is no trip none either (R779). -/
theorem thermalStep_released_resetValues {s : State} (values : s.ResetValues)
    (cool : s.thermal.mode = .tripped ∨ s.platform.dieTemp ≤ Config.tTrip) (r : ResetRelease) (a : BitVec 2) :
    (thermalStep 0 (released s r a)).ResetValues := by
  obtain ⟨bus, core⟩ := thermalStep_frame_of_not_hot (s := released s r a) cool 0
  rw [State.ResetValues, bus, core]
  exact values

/-- Without a trip the core begins at the reset vector, unless the outputs are tristated (R780, R781). -/
theorem thermalStep_released_core {s : State} (cool : s.thermal.mode = .tripped ∨ s.platform.dieTemp ≤ Config.tTrip)
    (r : ResetRelease) (a : BitVec 2) :
    (thermalStep 0 (released s r a)).core.pc = Config.resetPc ∧
      (thermalStep 0 (released s r a)).core.run = if r.opts.outputTristate then .stopped else .running := by
  rw [(thermalStep_frame_of_not_hot (s := released s r a) cool 0).2]
  exact ⟨rfl, rfl⟩

/-- A processor that RESET# has held and whose die is not above the trip point: the items of R779, and the monitor in its normal
state or just in ETM (R361, R779). -/
theorem thermalStep_released_held {s : State} (in_reset : s.bus.inReset = true) (held : s.HeldInReset)
    (powered : s.powered = true) (cool : s.platform.dieTemp ≤ Config.tTrip) (r : ResetRelease) (a : BitVec 2) :
    (thermalStep 0 (released s r a)).ResetValues ∧ (thermalStep 0 (released s r a)).thermal.thrmtrip = false ∧
      (thermalStep 0 (released s r a)).thermal.mode =
        if s.thermal.etmEnabled = true ∧ Config.tEtmEntry < s.platform.dieTemp then .etmLowPower else .normal := by
  obtain ⟨values, -, normal, no_thrmtrip⟩ := held in_reset
  have not_tripped : s.thermal.mode ≠ .tripped := by simp [normal]
  have monitor := thermalStep_thermal_of_cool (s := released s r a) rfl powered not_tripped cool 0
  refine ⟨thermalStep_released_resetValues values (.inr cool) r a, ?_, ?_⟩
  · rw [monitor, Thermal.etm_thrmtrip]
    exact no_thrmtrip
  · rw [monitor]
    exact Thermal.etm_mode_of_normal (x := (released s r a).thermal) normal ..

/-- Above the trip point the processor trips as it comes out of reset (R360, R365). -/
theorem thermalStep_released_hot {s : State} (powered : s.powered = true) (not_tripped : s.thermal.mode ≠ .tripped)
    (hot : Config.tTrip < s.platform.dieTemp) (r : ResetRelease) (a : BitVec 2) :
    (thermalStep 0 (released s r a)).thermal.mode = .tripped ∧
      (thermalStep 0 (released s r a)).core.run = .stopped := by
  rw [thermalStep_hot (s := released s r a) rfl powered not_tripped hot]
  exact ⟨rfl, rfl⟩

/-- Settles O59: the checks refuse in their order, and what comes out of reset is what the monitor leaves of `released`. -/
theorem resetReleased : Obligations.ResetReleased := by
  intro s r rest reads next in_reset timing reads_eq
  have step_eq : step s = resetRelease r { s with inputs := rest } := step_next next
  have codes : reads = ratioCode s.platform.sku := by
    rw [reads_eq]
    cases s.platform.sku <;> rfl
  refine ⟨fun c code wrong => ?busRatio, fun right cool => ?_⟩
  case busRatio =>
    have ratio : ratioOk s.platform.sku r.ratioPins = false := by simp [ratioOk, ← codes, code, wrong]
    exact step_eq.trans (resetRelease_busRatio in_reset timing ratio)
  have ratio : ratioOk s.platform.sku r.ratioPins = true := by
    cases code : reads with
    | none => simp [ratioOk, ← codes, code]
    | some c => simp [ratioOk, ← codes, code, right c code]
  refine ⟨fun absent => ?noPalCode, fun some_pal held => ⟨fun x hx br => ?released, fun br => ?identity⟩⟩
  case noPalCode =>
    have pal : palPresent s r = false := by
      rw [Bool.eq_false_iff, ne_eq, palPresent_iff]
      rintro ⟨some_pal, held⟩
      rcases absent with none_pal | ⟨k, hk, differs⟩
      · exact some_pal none_pal
      · exact differs (held k hk)
    exact step_eq.trans (resetRelease_noPalCode in_reset timing ratio cool pal)
  case identity =>
    have pal := (palPresent_iff s r).mpr ⟨some_pal, held⟩
    exact step_eq.trans (resetRelease_identity in_reset timing ratio cool pal (identityOf_eq_none br))
  case released =>
    have pal := (palPresent_iff s r).mpr ⟨some_pal, held⟩
    obtain ⟨identity, agent⟩ := identityOf_of_mem hx br
    have powered := powered_of_resetTimingOk timing
    let u : State := { s with inputs := rest }
    obtain ⟨arbId, running, opts, bus_ratio, mem, devices, afterTrip⟩ :=
      thermalStep_released_outside (s := u) (r := r) (a := x.2.1) rfl
    have release := resetRelease_released (s := u) in_reset timing ratio cool pal identity
    refine ⟨_, step_eq.trans release, arbId, (congrArg agentIdOf arbId).trans agent, running, opts, mem, devices, afterTrip,
      bus_ratio.trans ?ratio, fun held below => thermalStep_released_held (s := u) in_reset held powered below r x.2.1,
      fun no_trip => ?core, fun not_tripped hot => thermalStep_released_hot (s := u) powered not_tripped hot r x.2.1⟩
    case ratio => cases s.platform.sku <;> rfl
    case core =>
      obtain ⟨pc, run⟩ := thermalStep_released_core (s := u) no_trip r x.2.1
      exact ⟨by rw [pc, resetPc_toNat], run⟩

end Sys2Proof.Machine
end

section
/-! PROOF. The thermal monitor: a trip stands until RESET# (R365, R366; O11), and what the monitor does at a die temperature
(R350, R360 to R365; O57). -/

namespace Sys2Proof.Machine

/-! ### A trip stands -/

/-- A trip of the first state, with THRMTRIP# as it is, is one of the second. -/
def TripKept (s t : State) : Prop :=
  s.thermal.mode = .tripped → t.thermal.mode = .tripped ∧ t.thermal.thrmtrip = s.thermal.thrmtrip

theorem TripKept.of_thermal_eq {s t : State} (h : t.thermal = s.thermal) : TripKept s t := by
  intro tripped
  rw [h]
  exact ⟨tripped, rfl⟩

/-- The monitor has nothing left to evaluate after a trip (R366). -/
theorem TripKept.evaluated {s u : State} (h : TripKept s u) (us : Nat) : TripKept s (thermalStep us u) := by
  intro tripped
  obtain ⟨still_tripped, thrmtrip⟩ := h tripped
  rw [thermalStep_tripped us still_tripped]
  exact ⟨still_tripped, thrmtrip⟩

/-- Nothing that the SMBus reaches is the monitor's (R100). -/
theorem OnlySmbusOrSupply.thermal_eq {s t : State} (h : OnlySmbusOrSupply s t) : t.thermal = s.thermal := by
  rw [h]

/-- Firmware that disables ETM leaves low power mode only: there are still Normal and Tripped (R361, R364). -/
theorem TripKept.setEtm (s : State) (e : Bool) : TripKept s { s with thermal := setEtm e s.thermal } := by
  intro tripped
  refine ⟨?_, rfl⟩
  cases e <;> simp [Machine.setEtm, tripped]

theorem resetRelease_next_cases {r : ResetRelease} {s t : State} (h : resetRelease r s = .next t) :
    t = s ∨ ∃ a, t = thermalStep 0 (released s r a) := by
  unfold resetRelease at h
  (repeat' split at h) <;> cases h
  · exact .inl rfl
  · exact .inr ⟨_, rfl⟩

/-- With its supply the processor loses its data, not the thermal state (R812, log 18). -/
theorem powerStep_next_thermal {next : PowerState} {s t : State} (h : powerStep next s = .next t) :
    ∃ u, u.thermal = s.thermal ∧ t = thermalStep 0 u := by
  unfold powerStep at h
  split at h
  · cases h
  · split at h
    · cases h
    · obtain rfl := Host.Outcome.next.inj h
      refine ⟨_, ?_, rfl⟩
      (repeat' split) <;> rfl

theorem runInput_processor_tripKept {x : Input} {s t : State} (processor : x.isProcessor = true)
    (h : runInput x s = .next t) : TripKept s t := by
  rcases runInput_processor processor h with ⟨e, rfl⟩ | frame
  · exact (TripKept.setEtm s e).evaluated 0
  · exact .of_thermal_eq frame.thermal

/-- What happens to the platform is evaluated by the monitor, or does not reach it; only RESET# sets it. -/
theorem runInput_platform_tripKept {x : Input} {s t : State} (not_processor : x.isProcessor = false)
    (not_smbus : x.isSmbus = false) (not_reset : x ≠ .resetAssert) (h : runInput x s = .next t) : TripKept s t := by
  cases x <;> cases not_processor <;> cases not_smbus
  case resetAssert => exact absurd rfl not_reset
  case dieTemp d =>
    cases h
    have same : TripKept s { s with platform := { s.platform with dieTemp := d } } := .of_thermal_eq rfl
    exact same.evaluated 0
  case thermal us =>
    cases h
    exact (TripKept.of_thermal_eq rfl).evaluated us
  case resetRelease r =>
    rcases resetRelease_next_cases h with rfl | ⟨a, rfl⟩
    · exact .of_thermal_eq rfl
    · have same_mode : TripKept s (released s r a) := fun tripped => ⟨tripped, rfl⟩
      exact same_mode.evaluated 0
  case power next =>
    obtain ⟨u, same, rfl⟩ := powerStep_next_thermal h
    exact (TripKept.of_thermal_eq same).evaluated 0
  case smwp | araRival =>
    cases h
    exact .of_thermal_eq rfl
  case pwrgood | measure | overshoot | platformCheck =>
    simp only [runInput, setPwrgood, measured, overshootSeen, platformCheck] at h
    (repeat' split at h) <;> cases h
    exact .of_thermal_eq rfl

theorem runInput_tripKept {x : Input} {s t : State} (not_reset : x ≠ .resetAssert) (h : runInput x s = .next t) :
    TripKept s t := by
  cases smbus : x.isSmbus with
  | true => exact .of_thermal_eq (runInput_smbus smbus h).2.thermal_eq
  | false =>
    cases processor : x.isProcessor with
    | true => exact runInput_processor_tripKept processor h
    | false => exact runInput_platform_tripKept processor smbus not_reset h

/-- Settles O11: an instruction does not reach the monitor, and of the events only RESET# takes it out of a trip. -/
theorem onlyResetEndsATrip : Obligations.OnlyResetEndsATrip := by
  intro s t tripped h
  rcases step_cases h with ⟨r, _, run⟩ | ⟨_, _, rfl⟩ | ⟨x, rest, next, run⟩
  · obtain ⟨_, thermal, _⟩ := exec_outside run
    exact .inl (TripKept.of_thermal_eq (s := s) thermal tripped)
  · exact .inl ⟨tripped, rfl⟩
  · by_cases reset : x = .resetAssert
    · subst reset
      cases run
      exact .inr ⟨rest, next, rfl, rfl⟩
    · exact .inl (runInput_tripKept (s := { s with inputs := rest }) reset run tripped)

/-! ### The thermal monitor at a die temperature -/

/-- A running processor that neither has tripped nor trips: what ETM makes of the temperature, with its CMCI. -/
theorem thermalStep_of_cool {s : State} (running : s.bus.inReset = false) (powered : s.powered = true)
    (not_tripped : s.thermal.mode ≠ .tripped) (cool : ¬ Config.tTrip < s.platform.dieTemp) (us : Nat) :
    thermalStep us s =
      { s with
        thermal := (s.thermal.etm s.platform.dieTemp us).1
        core := if (s.thermal.etm s.platform.dieTemp us).2 then raiseCmci s.core else s.core } := by
  simp [thermalStep, running, powered, not_tripped, cool]

section Etm

variable {x : Thermal} {d : Int} (us : Nat)

theorem Thermal.etm_of_disabled (disabled : x.etmEnabled = false) : x.etm d us = (x, false) := by
  simp [Thermal.etm, disabled]

/-- Entry into the low power mode, with a CMCI (R361). -/
theorem Thermal.etm_enters (enabled : x.etmEnabled = true) (normal : x.mode = .normal) (warm : Config.tEtmEntry < d) :
    x.etm d us = ({ x with mode := .etmLowPower, belowTime := 0 }, true) := by
  simp [Thermal.etm, enabled, normal, warm]

theorem Thermal.etm_stays_normal (normal : x.mode = .normal) (cool : ¬ Config.tEtmEntry < d) :
    x.etm d us = (x, false) := by
  simp [Thermal.etm, normal, cool]

/-- Exit from the low power mode, with another CMCI, after the time below the entry temperature (R363). -/
theorem Thermal.etm_exits (enabled : x.etmEnabled = true) (low : x.mode = .etmLowPower) (below : d < Config.tEtmEntry)
    (elapsed : Config.etmExitDelay ≤ x.belowTime + us) :
    x.etm d us = ({ x with mode := .normal, belowTime := 0 }, true) := by
  simp [Thermal.etm, enabled, low, below, elapsed]

/-- The time below the entry temperature counts toward exit (R363). -/
theorem Thermal.etm_counts (enabled : x.etmEnabled = true) (low : x.mode = .etmLowPower) (below : d < Config.tEtmEntry)
    (not_elapsed : ¬ Config.etmExitDelay ≤ x.belowTime + us) :
    x.etm d us = ({ x with belowTime := x.belowTime + us }, false) := by
  simp [Thermal.etm, enabled, low, below, not_elapsed]

/-- An interval that is not below the entry temperature starts the count again (log 25). -/
theorem Thermal.etm_restarts (enabled : x.etmEnabled = true) (low : x.mode = .etmLowPower)
    (not_below : ¬ d < Config.tEtmEntry) : x.etm d us = ({ x with belowTime := 0 }, false) := by
  have some_delay : ¬ Config.etmExitDelay ≤ 0 := Nat.not_succ_le_zero _
  simp [Thermal.etm, enabled, low, not_below, some_delay]

end Etm

/-- Time at the present die temperature, or a change of it: the monitor evaluates the temperature there is now. -/
theorem step_thermal_event {s : State} {dieTemp : Int} {us : Nat} {rest : List Input}
    (event : (s.Next (.thermal us) rest ∧ dieTemp = s.platform.dieTemp) ∨ (s.Next (.dieTemp dieTemp) rest ∧ us = 0)) :
    step s = .next (thermalStep us { s with inputs := rest, platform := { s.platform with dieTemp } }) := by
  rcases event with ⟨next, rfl⟩ | ⟨next, rfl⟩
  · rw [step_next next]
    rfl
  · rw [step_next next]
    rfl

/-- Settles O57: above the trip point the monitor trips, at any other temperature ETM does what its mode has it do. -/
theorem thermalStates : Obligations.ThermalStates := by
  intro s dieTemp us rest event powered running not_tripped
  let u : State := { s with inputs := rest, platform := { s.platform with dieTemp } }
  refine ⟨thermalStep us u, step_thermal_event event, ?_⟩
  split
  case isTrue hot =>
    rw [thermalStep_hot (s := u) running powered not_tripped hot]
    exact ⟨rfl, rfl, rfl, rfl, rfl, rfl, rfl, rfl, rfl⟩
  case isFalse cool =>
    rw [thermalStep_of_cool (s := u) running powered not_tripped cool]
    refine ⟨rfl, ?core, ?etm⟩
    case core =>
      dsimp only
      split <;> rfl
    case etm =>
      dsimp only
      split
      case isTrue disabled =>
        rw [Thermal.etm_of_disabled us disabled]
        exact ⟨rfl, rfl⟩
      case isFalse not_disabled =>
        have enabled : s.thermal.etmEnabled = true := Bool.eq_true_of_not_eq_false not_disabled
        cases mode : s.thermal.mode with
        | tripped => exact absurd mode not_tripped
        | normal =>
          dsimp only
          split
          case isTrue warm =>
            rw [Thermal.etm_enters us enabled mode warm]
            exact ⟨rfl, rfl⟩
          case isFalse not_warm =>
            rw [Thermal.etm_stays_normal us mode not_warm]
            exact ⟨rfl, rfl⟩
        | etmLowPower =>
          dsimp only
          split
          case isTrue exit =>
            obtain ⟨below, elapsed⟩ := exit
            rw [Thermal.etm_exits us enabled mode below elapsed]
            exact ⟨rfl, rfl⟩
          case isFalse no_exit =>
            split
            case isTrue below =>
              rw [Thermal.etm_counts us enabled mode below fun elapsed => no_exit ⟨below, elapsed⟩]
              exact ⟨by rw [mode], rfl⟩
            case isFalse not_below =>
              rw [Thermal.etm_restarts us enabled mode not_below]
              exact ⟨by rw [mode], rfl⟩

end Sys2Proof.Machine
end

section
/-! PROOF. The conversions of the thermal sensing device (R350, R455, R457, R460 to R464; O29): a conversion whose time is
over is finished at the die's reading, and the alarms are evaluated on it. -/

namespace Sys2Proof.Machine

/-- A saturated temperature is a signed byte's value (R460). -/
theorem sat8_toInt (t : Int) : (sat8 t).toInt = max (-128) (min 127 t) := by
  rw [sat8, BitVec.toInt_ofInt]
  exact Int.bmod_eq_of_le (by omega) (by omega)

/-- A conversion whose time is over ends, whatever is left of the rate timer (R457). -/
theorem Sensor.convertTime_ends {x : Sensor} {us : Nat} (elapsed : x.convLeft ≤ us) (milliC : Int) (free internal : Byte) :
    ∃ left, x.convertTime us milliC free internal =
      { x.finishConversion milliC free internal with rateTimer := left } := by
  unfold Sensor.convertTime
  rw [if_neg (Nat.not_lt.mpr elapsed)]
  cases standby x with
  | true => exact ⟨x.rateTimer, rfl⟩
  | false => exact ⟨x.rateTimer - min us x.convLeft, rfl⟩

/-- With a sound diode TEMP is the reading in whole degrees, and OPEN is not touched (R460). -/
theorem Sensor.finishConversion_sound {x : Sensor} (sound : x.openCond = false) (milliC : Int) (free internal : Byte) :
    (x.finishConversion milliC free internal).temp.toInt = max (-128) (min 127 ((milliC + 500) / 1000)) ∧
      (x.finishConversion milliC free internal).openFault = x.openFault := by
  simp [Sensor.finishConversion, sound, sat8_toInt, roundMilli]

/-- With an open diode OPEN is set (R461). -/
theorem Sensor.finishConversion_open {x : Sensor} (is_open : x.openCond = true) (milliC : Int) (free internal : Byte) :
    (x.finishConversion milliC free internal).openFault = true := by
  simp [Sensor.finishConversion, is_open]

/-- The alarms are evaluated on the new TEMP; a bit that is set stays set, and OPEN does not set the alert latch (R462 to
R464, D9). -/
theorem Sensor.finishConversion_alarms (x : Sensor) (milliC : Int) (free internal : Byte) :
    let y := x.finishConversion milliC free internal
    y.rhigh = (x.rhigh || decide (x.thigh.toInt ≤ y.temp.toInt)) ∧
      y.rlow = (x.rlow || decide (y.temp.toInt ≤ x.tlow.toInt)) ∧
      y.alertLatch =
        (x.alertLatch || decide (x.thigh.toInt ≤ y.temp.toInt) || decide (y.temp.toInt ≤ x.tlow.toInt)) :=
  ⟨rfl, rfl, rfl⟩

/-- With no conversion in progress: nothing in standby, else the rate timer runs, and a conversion starts and the timer is
loaded with the period when it has run out (R455, R457). -/
theorem Sensor.idleTime_eq (x : Sensor) (us : Nat) :
    x.idleTime us =
      if x.config.getLsbD 6 = true then x
      else if us < x.rateTimer then { x with rateTimer := x.rateTimer - us }
      else { x with converting := true, convLeft := Config.tConv, rateTimer := conversionPeriod x } := rfl

/-- Time for a sensor that has power goes to the conversion in progress, or else to the rate timer (R455, R457). -/
theorem step_sensorTime {s : State} {us : Nat} {error : Int} {rest : List Input} (next : s.Next (.sensorTime us error) rest)
    (supply : s.platform.smbusPower = true) :
    step s = .next ((({ s with inputs := rest } : State).setSensor
      (if s.sensor.converting then
        s.sensor.convertTime us (diodeReading s error) (Config.freeByte s.free) (Config.freeByte (s.free + 1))
      else s.sensor.idleTime us)).drew 2) := by
  rw [step_next next]
  simp only [runInput, sensorTime, supply, if_true]
  rfl

/-- Settles O29: a conversion whose time is over is finished at the die's reading, whatever the free bytes are; with none in
progress the rate timer runs. -/
theorem conversionStartsAndEnds : Obligations.ConversionStartsAndEnds := by
  refine ⟨?ends, ?starts⟩
  case ends =>
    intro s us error rest T next supply converting elapsed reading
    have stepped := step_sensorTime next supply
    rw [if_pos converting] at stepped
    generalize Config.freeByte s.free = free, Config.freeByte (s.free + 1) = internal at stepped
    obtain ⟨left, ended⟩ := Sensor.convertTime_ends elapsed (diodeReading s error) free internal
    rw [ended] at stepped
    obtain ⟨rhigh, rlow, latch⟩ := Sensor.finishConversion_alarms s.sensor (diodeReading s error) free internal
    refine ⟨_, stepped, rfl, rfl, rfl, rfl, fun sound => ?sound, fun is_open => ?is_open, rfl, rhigh, rlow, latch,
      rfl, rfl, rfl, rfl, rfl, rfl⟩
    case sound =>
      rw [reading]
      exact Sensor.finishConversion_sound sound (diodeReading s error) free internal
    case is_open => exact Sensor.finishConversion_open is_open (diodeReading s error) free internal
  case starts =>
    intro s us error rest next supply idle
    have stepped := step_sensorTime next supply
    rw [if_neg (Bool.eq_false_iff.mp idle)] at stepped
    exact ⟨_, stepped, rfl, Sensor.idleTime_eq s.sensor us⟩

end Sys2Proof.Machine
end

section
/-! PROOF. The packets of the two memories (R384, R390, R411, R412, R414 to R422, R432, R447; O9, O15 to O20): what a read, a
write, an attempt at a protected write and an address alone leave in the selected memory, and that a packet to no device of the
package leaves it as it is. -/

namespace Sys2Proof.Machine

/-! ### One of the two memories -/

@[simp] theorem State.eeprom_true (s : State) : s.eeprom true = s.pirom := rfl
@[simp] theorem State.eeprom_false (s : State) : s.eeprom false = s.scratch := rfl
@[simp] theorem State.answered_eeprom (s : State) (l : List DevItem) (p : Bool) : (s.answered l).eeprom p = s.eeprom p := rfl

@[simp] theorem State.setEeprom_eeprom_same (s : State) (p : Bool) (e : Eeprom) : (s.setEeprom p e).eeprom p = e := by
  cases p <;> rfl

@[simp] theorem State.setEeprom_eeprom_other (s : State) (p : Bool) (e : Eeprom) :
    (s.setEeprom p e).eeprom (!p) = s.eeprom (!p) := by
  cases p <;> rfl

/-- Within a page the offset of the first byte is its own (R412). -/
theorem page_offset_zero (o : BitVec 7) : (o &&& 0x78) ||| ((o + 0) &&& 0x07) = o := by
  revert o
  decide

/-! ### A packet to the selected memory -/

/-- A read of `n` bytes begins at the counter, or at the data address of a random read (R414 to R416). -/
theorem memoryRead_of_selects {s : State} {sel : EeSel} (selected : selects s sel.sma = true) (start : Option Byte) (n : Nat)
    {first : BitVec 7} (begins : start.elim (s.eeprom sel.pirom).counter dataOffset = first) :
    memoryRead s sel start n =
      (s.setEeprom sel.pirom { s.eeprom sel.pirom with counter := first + BitVec.ofNat 7 n }).answered
        ((if start.isSome then [.ack, .ack, .ack] else [.ack]) ++
          (List.range n).map fun k => .data ((s.eeprom sel.pirom).byteAt (first + BitVec.ofNat 7 k))) := by
  subst begins
  unfold memoryRead
  rw [if_pos selected]
  simp only [Eeprom.readN_fst, Eeprom.readN_snd]
  cases start <;> rfl

/-- A current address read is a sequential read the host does not go on with (R414, R416). -/
theorem exec_eeCurrentAddressRead_eq (sel : EeSel) (s : State) :
    exec (.eeCurrentAddressRead sel) s = exec (.eeSequentialRead sel none 0) s := rfl

/-- So is a random read, one that begins with a data address (R415, R416). -/
theorem exec_eeRandomRead_eq (sel : EeSel) (da : Byte) (s : State) :
    exec (.eeRandomRead sel da) s = exec (.eeSequentialRead sel (some da) 0) s := rfl

/-- A write to the scratch EEPROM with SMWP low (R418, R419). -/
theorem scratchWrite_of_selects {s : State} {sma : BitVec 2} (selected : selects s sma = true)
    (writable : s.platform.smwp = false) (da : Byte) (data : List Byte) :
    scratchWrite s sma da data =
      (s.setEeprom false (Eeprom.storeAll data (s.scratch.load da))).answered
        (.ack :: .ack :: List.replicate data.length .ack) := by
  simp [scratchWrite, selected, writable]

/-- With SMWP high a write to the scratch EEPROM is an attempt at a protected one (R421). -/
theorem scratchWrite_of_smwp {s : State} (smwp : s.platform.smwp = true) (sma : BitVec 2) (da : Byte) (data : List Byte) :
    scratchWrite s sma da data = protectedWrite s ⟨sma, false⟩ da data.length Config.scratchWpAck := by
  simp [scratchWrite, smwp]

/-- What an attempt to write a protected memory does to the memory and answers (R420, R421). -/
theorem protectedWrite_of_selects {s : State} {sel : EeSel} (selected : selects s sel.sma = true) (da : Byte) (n : Nat)
    (acked : Bool) :
    protectedWrite s sel da n acked =
      ((s.setEeprom sel.pirom ((s.eeprom sel.pirom).protectedWrite da acked (Config.freeCounter s.free))).answered
        (protectedAnswers n acked)).drew 1 := by
  rw [protectedWrite, if_pos selected]

/-- The data address stays loaded when the data bytes are not acknowledged (R420, R421). -/
theorem Eeprom.protectedWrite_counter_of_not_acked {acked : Bool} (not_acked : acked = false) (e : Eeprom) (da : Byte)
    (free : BitVec 7) : (e.protectedWrite da acked free).counter = dataOffset da := by
  rw [Eeprom.protectedWrite_counter, not_acked]
  rfl

/-! ### A packet to no device of the package -/

theorem memoryRead_of_not_selects {s : State} {sel : EeSel} (other : selects s sel.sma = false) (start : Option Byte) (n : Nat) :
    memoryRead s sel start n = s.unanswered := by
  simp [memoryRead, other]

theorem protectedWrite_of_not_selects {s : State} {sel : EeSel} (other : selects s sel.sma = false) (da : Byte) (n : Nat)
    (acked : Bool) : protectedWrite s sel da n acked = s.unanswered := by
  simp [protectedWrite, other]

theorem scratchWrite_of_not_selects {s : State} {sma : BitVec 2} (other : selects s sma = false) (da : Byte)
    (data : List Byte) : scratchWrite s sma da data = s.unanswered := by
  cases smwp : s.platform.smwp with
  | true => rw [scratchWrite_of_smwp smwp, protectedWrite_of_not_selects other]
  | false => simp [scratchWrite, smwp, other]

theorem sensorRead_of_not_selects {s : State} {a : SmbAddr} (other : sensorSelects s a = false) (c : Byte) :
    sensorRead s a c = s.unanswered := by
  simp [sensorRead, other]

theorem sensorWrite_of_not_selects {s : State} {a : SmbAddr} (other : sensorSelects s a = false) (c : Byte) (x : Sensor) :
    sensorWrite s a c x = s.unanswered := by
  simp [sensorWrite, other]

/-- An illegal byte is refused only of the sensor it is sent to (R77, R78). -/
theorem sensorWrite_checked_of_not_selects {s : State} {a : SmbAddr} (other : sensorSelects s a = false)
    (m : Option Malformed) (c : Byte) (x : Sensor) :
    unlessMalformed (if sensorSelects s a then m else none) (sensorWrite s a c x) = .next s.unanswered := by
  simp [sensorWrite, other]

/-- No memory of the package answers (R384). -/
theorem exec_memory_of_not_selects {s : State} {sel : EeSel} (other : selects s sel.sma = false) (da d : Byte)
    (data : List Byte) (start : Option Byte) (more : Nat) :
    ∀ i ∈ [Instr.eeCurrentAddressRead sel, .eeRandomRead sel da, .eeSequentialRead sel start more,
        .eeByteWrite sel.sma da d, .eePageWrite sel.sma da data, .eeWriteToPirom sel.sma da data,
        .eeWriteProtected sel.sma da data], exec i s = .next s.unanswered := by
  have read (start : Option Byte) (n : Nat) :
      (.next (memoryRead s sel start n) : Host.Outcome State Fault Refusal) = .next s.unanswered := by
    rw [memoryRead_of_not_selects other]
  have write (data : List Byte) :
      (.next (scratchWrite s sel.sma da data) : Host.Outcome State Fault Refusal) = .next s.unanswered := by
    rw [scratchWrite_of_not_selects other]
  have attempt (pirom acked : Bool) :
      (.next (protectedWrite s ⟨sel.sma, pirom⟩ da data.length acked) : Host.Outcome State Fault Refusal) =
        .next s.unanswered := by
    rw [protectedWrite_of_not_selects (sel := ⟨sel.sma, pirom⟩) other]
  simp only [List.forall_mem_cons]
  exact ⟨read none 1, read (some da) 1, read start (more + 1), write [d], write data, attempt true _, attempt false _,
    List.forall_mem_nil _⟩

/-- The sensor does not answer (R432). -/
theorem exec_sensor_of_not_selects {s : State} {a : SmbAddr} (other : sensorSelects s a = false) (d c : Byte)
    (form : SensorForm) :
    ∀ i ∈ [Instr.rrt a, .rs a, .rc a, .rcr a, .rrhl a, .rrll a, .wc a d, .wcr a d, .wrhl a d, .wrll a d, .osht a,
        .receiveByte a, .sensorReservedCommand a c form], exec i s = .next s.unanswered := by
  have read (c : Byte) : (.next (sensorRead s a c) : Host.Outcome State Fault Refusal) = .next s.unanswered := by
    rw [sensorRead_of_not_selects other]
  have write (c : Byte) (x : Sensor) :
      (.next (sensorWrite s a c x) : Host.Outcome State Fault Refusal) = .next s.unanswered := by
    rw [sensorWrite_of_not_selects other]
  have oneShot : exec (.osht a) s = .next s.unanswered := by simp [exec, execOsht, other]
  have receive : exec (.receiveByte a) s = .next s.unanswered := by simp [exec, execReceiveByte, other]
  have reserved : exec (.sensorReservedCommand a c form) s = .next s.unanswered := by
    simp [exec, execSensorReservedCommand, other]
  simp only [List.forall_mem_cons]
  exact ⟨read _, read _, read _, read _, read _, read _, sensorWrite_checked_of_not_selects other ..,
    sensorWrite_checked_of_not_selects other .., write .., write .., oneShot, receive, reserved, List.forall_mem_nil _⟩

/-- A sensor with no power or no alert to tell of is silent (R447). -/
theorem exec_ara_of_silent {s : State} (silent : s.platform.smbusPower = false ∨ s.sensor.alertLatch = false) :
    exec .ara s = .next s.unanswered := by
  rcases silent with off | clear
  · simp [exec, execAra, off]
  · simp [exec, execAra, clear]

/-! ### A write packet without data -/

/-- The write with no data loads the address (R415). -/
theorem step_loadAddress {s : State} {sel : EeSel} {da : Byte} {rest : List Input}
    (next : s.Next (.packet (packetWrite (memoryAddress sel) [da])) rest) :
    step s = .next (loadAddressPacket sel da { s with inputs := rest }) := by
  rw [step_next next]
  simp only [runInput, decode_packetWrite, decodePacket_memoryWrite]
  rfl

/-- The write packet with no data address (R422). -/
theorem step_probe {s : State} {sel : EeSel} {rest : List Input}
    (next : s.Next (.packet (packetWrite (memoryAddress sel) [])) rest) :
    step s = .next (probePacket (memoryAddress sel) { s with inputs := rest }) := by
  rw [step_next next]
  simp only [runInput, decode_packetWrite, decodePacket_memoryAddress (p := .write (memoryAddress sel) []) rfl]
  rfl

theorem loadAddressPacket_of_selects {s : State} {sel : EeSel} (selected : selects s sel.sma = true) (da : Byte) :
    loadAddressPacket sel da s = (s.setEeprom sel.pirom ((s.eeprom sel.pirom).load da)).answered [.ack, .ack] := by
  rw [loadAddressPacket, if_pos selected]

theorem probePacket_of_selects {s : State} {sel : EeSel} (selected : selects s sel.sma = true) :
    probePacket (memoryAddress sel) s = s.answered [.ack] := by
  simp [probePacket, isMemoryAddress_memoryAddress, addressSel_memoryAddress, selected]

/-! ### Every event of the SMBus -/

/-- Nothing the SMBus is reached by changes a byte of the scratch EEPROM while SMWP is high (R411, R421). -/
theorem runInput_smbus_scratch_mem {x : Input} {s t : State} (smbus : x.isSmbus = true) (h : runInput x s = .next t)
    (smwp : s.platform.smwp = true) : t.scratch.mem = s.scratch.mem := by
  cases x <;> cases smbus
  case packet items => exact (runPacket_mem h).2 smwp
  case packetSmwpChange => cases h
  case sensorTime us error =>
    cases h
    unfold sensorTime
    split <;> rfl
  case diode isOpen => cases h; rfl
  case sensorRate mill =>
    cases h
    unfold sensorRate
    split <;> rfl
  case smbusPower on busy =>
    cases h
    unfold smbusPower
    (repeat' split) <;> rfl

/-! ### The statements -/

/-- Settles O9: an event of the SMBus changes no protected byte, and any other is sheltered from the memories. -/
theorem protectedBytesNeverChange : Obligations.ProtectedBytesNeverChange := by
  intro s t h
  rcases step_smbus_or_sheltered h with ⟨x, rest, _, smbus, run⟩ | sheltered
  · obtain ⟨pirom, _⟩ := runInput_smbus smbus run
    exact ⟨pirom, runInput_smbus_scratch_mem (s := { s with inputs := rest }) smbus run⟩
  · obtain ⟨pirom, scratch, _⟩ := sheltered.devices
    exact ⟨congrArg _ pirom, fun _ => congrArg _ scratch⟩

/-- Settles O16: the read of a number of bytes, from wherever it begins. -/
theorem sequentialRead : Obligations.SequentialRead := by
  intro s sel start more first selected begins
  have first_eq : start.elim (s.eeprom sel.pirom).counter dataOffset = first := by
    cases start <;> exact begins.symm
  refine ⟨_, rfl, memoryRead_frame .., ?_⟩
  rw [memoryRead_of_selects selected start _ first_eq]
  exact ⟨by simp, rfl, State.setEeprom_eeprom_same .., State.setEeprom_eeprom_other ..⟩

/-- Settles O15: a current address read and a random read are sequential reads that the host does not go on with. -/
theorem addressReads : Obligations.AddressReads := by
  intro s sel da selected
  simp only [List.forall_mem_cons]
  refine ⟨?current, ?random, List.forall_mem_nil _⟩
  case current =>
    rw [exec_eeCurrentAddressRead_eq]
    simpa using sequentialRead s sel none 0 _ selected rfl
  case random =>
    rw [exec_eeRandomRead_eq]
    simpa using sequentialRead s sel (some da) 0 _ selected rfl

/-- Settles O18: the bytes are stored one after the other from the loaded data address on. -/
theorem pageWrite : Obligations.PageWrite := by
  rintro s sma da data o selected writable rfl
  refine ⟨_, rfl, scratchWrite_frame .., ?_⟩
  rw [scratchWrite_of_selects selected writable]
  refine ⟨by simp, by simp, rfl, fun a => Eeprom.storeAll_byteAt data (s.scratch.load da) a, ?counter⟩
  refine (Eeprom.storeAll_counter data (s.scratch.load da)).trans ?_
  split
  case isTrue empty =>
    rw [empty]
    exact (page_offset_zero _).symm
  case isFalse => rfl

/-- Settles O17: one byte is stored at the loaded data address. -/
theorem byteWrite : Obligations.ByteWrite := by
  rintro s sma da d o selected writable rfl
  refine ⟨_, rfl, scratchWrite_frame .., ?_⟩
  rw [scratchWrite_of_selects selected writable]
  exact ⟨by simp, by simp, rfl, fun a => Eeprom.store_byteAt (s.scratch.load da) d a, rfl⟩

/-- Settles O19: of the protected memory the counter changes at most. -/
theorem protectedWrites : Obligations.ProtectedWrites := by
  intro s sma da d data selected
  refine ⟨⟨_, rfl, protectedWrite_frame .., ?pirom⟩, ⟨_, rfl, protectedWrite_frame .., ?scratch⟩, fun smwp => ?smwp⟩
  case pirom =>
    rw [protectedWrite_of_selects (sel := ⟨sma, true⟩) selected]
    exact ⟨rfl, rfl, fun not_acked => Eeprom.protectedWrite_counter_of_not_acked not_acked .., rfl⟩
  case scratch =>
    rw [protectedWrite_of_selects (sel := ⟨sma, false⟩) selected]
    exact ⟨rfl, rfl, fun not_acked => Eeprom.protectedWrite_counter_of_not_acked not_acked .., rfl⟩
  case smwp =>
    exact ⟨congrArg _ (scratchWrite_of_smwp smwp sma da [d]), congrArg _ (scratchWrite_of_smwp smwp sma da data)⟩

/-- Settles O20: packets to no device, by device; then the two packets a selected memory takes that carry no data. -/
theorem unselectedAndAddressOnlyPackets : Obligations.UnselectedAndAddressOnlyPackets := by
  refine ⟨fun s sel da d data start more other => exec_memory_of_not_selects other da d data start more,
    fun s a d c form other => exec_sensor_of_not_selects other d c form, fun s silent => exec_ara_of_silent silent,
    fun s rest sel da selected => ⟨fun next => ?load, fun next => ?probe⟩⟩
  case load =>
    refine ⟨_, step_loadAddress next, ?_⟩
    rw [loadAddressPacket_of_selects (s := { s with inputs := rest }) selected]
    refine ⟨?only_smbus, by simp, by simp, rfl, State.setEeprom_eeprom_same .., State.setEeprom_eeprom_other ..⟩
    case only_smbus => cases sel.pirom <;> rfl
  case probe =>
    rw [step_probe next, probePacket_of_selects (s := { s with inputs := rest }) selected]
    rfl

end Sys2Proof.Machine
end

section
/-! PROOF. The packets of the thermal sensing device and its supply (R61, R90, R431, R435 to R449, R457, R462 to R470; O21 to O28,
O30): what each command returns and does to the selected sensor, and which events take back an alarm bit or the alert latch. -/

namespace Sys2Proof.Machine

/-! ### The bits of STATUS and the registers behind the read commands -/

/-- BUSY, RHIGH, RLOW and OPEN, whatever the reserved bits are (R74). -/
theorem statusByte_bits (x : Sensor) (free : Byte) :
    (statusByte x free).getLsbD 7 = x.converting ∧ (statusByte x free).getLsbD 4 = x.rhigh ∧
      (statusByte x free).getLsbD 3 = x.rlow ∧ (statusByte x free).getLsbD 2 = x.openFault := by
  unfold statusByte
  grind

theorem Sensor.afterRead_of_ne {c : Byte} (h : c ≠ 0x02) (x : Sensor) : x.afterRead c = x := if_neg h

/-- The read commands other than RS, with the register each returns (R436, R438 to R441). -/
def Sensor.plainRegisters (x : Sensor) : List (Byte × Byte) :=
  [(0x01, x.temp), (0x03, x.config), (0x04, x.convrate), (0x07, x.thigh), (0x08, x.tlow)]

theorem Sensor.value_of_plain {x : Sensor} {c v : Byte} (plain : (c, v) ∈ x.plainRegisters) (free : Byte) :
    x.value c free = v := by
  simp only [Sensor.plainRegisters, List.mem_cons, List.not_mem_nil, or_false, Prod.mk.injEq] at plain
  rcases plain with ⟨rfl, rfl⟩ | ⟨rfl, rfl⟩ | ⟨rfl, rfl⟩ | ⟨rfl, rfl⟩ | ⟨rfl, rfl⟩ <;> rfl

/-- Only a read of STATUS has a side effect (R437). -/
theorem Sensor.afterRead_of_plain {x : Sensor} {c v : Byte} (plain : (c, v) ∈ x.plainRegisters) (y : Sensor) :
    y.afterRead c = y := by
  refine Sensor.afterRead_of_ne ?_ y
  rintro rfl
  simp [Sensor.plainRegisters] at plain

/-- The command of the last read byte packet, received again, is no change. -/
theorem Sensor.commanded_eq_self {x : Sensor} {c : Byte} (pointer : x.cmdPointer = c) (valid : x.cmdValid = true) :
    x.commanded c = x := by
  rw [Sensor.commanded, ← pointer, ← valid]

/-! ### A packet to the selected sensor -/

theorem sensorRead_of_selects {s : State} {a : SmbAddr} (selected : sensorSelects s a = true) (c : Byte) :
    sensorRead s a c =
      ((s.setSensor ((s.sensor.commanded c).afterRead c)).answered
        [.ack, .ack, .ack, .data (s.sensor.value c (Config.freeByte s.free))]).drew 1 := by
  rw [sensorRead, if_pos selected]

theorem sensorWrite_of_selects {s : State} {a : SmbAddr} (selected : sensorSelects s a = true) (c : Byte) (x : Sensor) :
    OnlySensor s (sensorWrite s a c x) ∧ (sensorWrite s a c x).answer = [.ack, .ack, .ack] ∧
      (sensorWrite s a c x).sensor = x.writeCommanded c := by
  rw [sensorWrite, if_pos selected]
  exact ⟨rfl, rfl, rfl⟩

theorem exec_rs_of_selects {s : State} {a : SmbAddr} (selected : sensorSelects s a = true) :
    exec (.rs a) s = .next (((s.setSensor (s.sensor.commanded 0x02).statusRead).answered
      [.ack, .ack, .ack, .data (statusByte s.sensor (Config.freeByte s.free))]).drew 1) :=
  congrArg _ (sensorRead_of_selects selected 0x02)

/-- A legal byte of a checked write is written (R77, R78). -/
theorem sensorWrite_checked_of_legal {m : Option Malformed} (legal : m = none) (s : State) (a : SmbAddr) (c : Byte)
    (x : Sensor) :
    unlessMalformed (if sensorSelects s a then m else none) (sensorWrite s a c x) = .next (sensorWrite s a c x) := by
  simp [legal]

theorem configMalformed_of_legal {d : Byte} (h : d &&& 0xBF = 0) : configMalformed d = none :=
  if_pos (beq_iff_eq.mpr h)

theorem rateMalformed_of_legal {d : Byte} (h : d.toNat ≤ 7) : rateMalformed d = none := if_pos h

theorem exec_osht_of_selects {s : State} {a : SmbAddr} (selected : sensorSelects s a = true) :
    exec (.osht a) s = .next ((s.setSensor (s.sensor.oneShot.writeCommanded 0x0F)).answered [.ack, .ack]) := by
  simp only [exec, execOsht, if_pos selected]

/-- After a read byte packet a receive byte reads the same register again (R449). -/
theorem exec_receiveByte_of_valid {s : State} {a : SmbAddr} (selected : sensorSelects s a = true)
    (valid : s.sensor.cmdValid = true) :
    exec (.receiveByte a) s = .next (((s.setSensor (s.sensor.afterRead s.sensor.cmdPointer)).answered
      [.ack, .data (s.sensor.value s.sensor.cmdPointer (Config.freeByte s.free))]).drew 1) := by
  simp only [exec, execReceiveByte, if_pos selected, if_pos valid]

/-- With no read byte packet before it the source leaves a receive byte undefined (R449, D10). -/
theorem exec_receiveByte_of_invalid {s : State} {a : SmbAddr} (selected : sensorSelects s a = true)
    (invalid : s.sensor.cmdValid = false) :
    exec (.receiveByte a) s =
      .next (((s.setSensor (s.sensor.havoc s.free)).answered [.ack, .data (Config.freeByte s.free)]).drew 18) := by
  simp [exec, execReceiveByte, selected, invalid]

/-- A sensor with power and an alert to tell of answers, unless it loses the transfer (R447, D33). -/
theorem exec_ara_of_alerting {s : State} (supply : s.platform.smbusPower = true) (latch : s.sensor.alertLatch = true) :
    exec .ara s = .next (if araLost s then s.answered [.ack]
      else (s.setSensor { s.sensor with alertLatch := false }).answered
        [.ack, .data (addressByte (sensorAddress s.platform.sma2 s.platform.sma1) 1)]) := by
  simp [exec, execAra, supply, latch]

/-- The transfer is lost to a rival of a lower address, and to no other (D33). -/
theorem araLost_iff (s : State) :
    araLost s = true ↔
      ∃ r, s.platform.araRival = some r ∧ r.toNat < (sensorAddress s.platform.sma2 s.platform.sma1).toNat := by
  unfold araLost
  cases s.platform.araRival <;> simp

/-! ### The writes of CONFIG and the one-shot command -/

section Branches

variable {x : Sensor} {d : Byte}

theorem Sensor.writeConfig_same (h : d = x.config) (free : Nat) : x.writeConfig d free = x := if_pos h

theorem Sensor.writeConfig_stop (changed : d ≠ x.config) (stop : d.getLsbD 6 = true) (free : Nat) :
    x.writeConfig d free = { x with config := d, converting := false, convLeft := 0, rateTimer := 0 } := by
  rw [Sensor.writeConfig, if_neg changed, if_pos stop]

theorem Sensor.writeConfig_run (changed : d ≠ x.config) (run : ¬ d.getLsbD 6 = true) (was_standby : standby x = true)
    (free : Nat) :
    x.writeConfig d free = { x with config := d, rateTimer := free % (conversionPeriod x + 1) } := by
  rw [Sensor.writeConfig, if_neg changed, if_neg run, if_pos was_standby]

theorem Sensor.writeConfig_running (changed : d ≠ x.config) (run : ¬ d.getLsbD 6 = true)
    (was_running : ¬ standby x = true) (free : Nat) : x.writeConfig d free = { x with config := d } := by
  rw [Sensor.writeConfig, if_neg changed, if_neg run, if_neg was_running]

theorem Sensor.oneShot_converting (h : x.converting = true) : x.oneShot = x := if_pos h

theorem Sensor.oneShot_standby (idle : ¬ x.converting = true) (h : standby x = true) :
    x.oneShot = { x with converting := true, convLeft := Config.tConv } := by
  rw [Sensor.oneShot, if_neg idle, if_pos h, Sensor.startConversion]

theorem Sensor.oneShot_auto (idle : ¬ x.converting = true) (h : ¬ standby x = true) :
    x.oneShot = { x with converting := true, convLeft := Config.tConv, rateTimer := conversionPeriod x } := by
  rw [Sensor.oneShot, if_neg idle, if_neg h, Sensor.startConversion]

end Branches

/-! ### Which alerts stand -/

/-- No alarm bit that is set in `x` is clear in `y`. -/
structure Sensor.AlarmsStand (x y : Sensor) : Prop where
  rhigh : x.rhigh = true → y.rhigh = true
  rlow : x.rlow = true → y.rlow = true
  openFault : x.openFault = true → y.openFault = true

/-- Neither an alarm bit nor the alert latch is taken back. -/
structure Sensor.AlertsStand (x y : Sensor) : Prop extends Sensor.AlarmsStand x y where
  latch : x.alertLatch = true → y.alertLatch = true

/-- The alarm bits and the alert latch. -/
def Sensor.alerts (x : Sensor) : Bool × Bool × Bool × Bool := (x.rhigh, x.rlow, x.openFault, x.alertLatch)

theorem Sensor.AlertsStand.of_eq {x y : Sensor} (same : y.alerts = x.alerts) : x.AlertsStand y := by
  simp only [Sensor.alerts, Prod.mk.injEq] at same
  obtain ⟨rhigh, rlow, openFault, latch⟩ := same
  exact ⟨⟨rhigh.trans, rlow.trans, openFault.trans⟩, latch.trans⟩

theorem Sensor.AlertsStand.refl (x : Sensor) : x.AlertsStand x := .of_eq rfl

theorem Sensor.AlarmsStand.not_cleared {x y : Sensor} (h : x.AlarmsStand y) :
    ¬ ((x.rhigh = true ∧ y.rhigh = false) ∨ (x.rlow = true ∧ y.rlow = false) ∨
      (x.openFault = true ∧ y.openFault = false)) := by
  rintro (⟨set, clear⟩ | ⟨set, clear⟩ | ⟨set, clear⟩)
  · exact Bool.eq_false_iff.mp clear (h.rhigh set)
  · exact Bool.eq_false_iff.mp clear (h.rlow set)
  · exact Bool.eq_false_iff.mp clear (h.openFault set)

theorem Sensor.writeConfig_alerts (x : Sensor) (d : Byte) (free : Nat) : (x.writeConfig d free).alerts = x.alerts := by
  unfold Sensor.writeConfig
  (repeat' split) <;> rfl

theorem Sensor.oneShot_alerts (x : Sensor) : x.oneShot.alerts = x.alerts := by
  unfold Sensor.oneShot
  (repeat' split) <;> rfl

theorem Sensor.idleTime_alerts (x : Sensor) (us : Nat) : (x.idleTime us).alerts = x.alerts := by
  unfold Sensor.idleTime
  (repeat' split) <;> rfl

/-- The end of a conversion sets alerts and takes none back (R464). -/
theorem Sensor.finishConversion_alertsStand (x : Sensor) (milliC : Int) (free internal : Byte) :
    x.AlertsStand (x.finishConversion milliC free internal) := by
  refine ⟨⟨fun set => ?_, fun set => ?_, fun set => ?_⟩, fun set => ?_⟩ <;> simp [Sensor.finishConversion, set]

theorem Sensor.convertTime_alertsStand (x : Sensor) (us : Nat) (milliC : Int) (free internal : Byte) :
    x.AlertsStand (x.convertTime us milliC free internal) := by
  by_cases elapsed : x.convLeft ≤ us
  · obtain ⟨left, ends⟩ := Sensor.convertTime_ends elapsed milliC free internal
    rw [ends]
    have finished := Sensor.finishConversion_alertsStand x milliC free internal
    exact ⟨⟨finished.rhigh, finished.rlow, finished.openFault⟩, finished.latch⟩
  · refine .of_eq ?_
    simp only [Sensor.convertTime, if_pos (Nat.not_le.mp elapsed)]
    split <;> rfl

/-! ### Which events take an alert back -/

/-- What the run of an SMBus packet's instruction can do to the alerts: a read of STATUS and the ARA each take back their own, an
undefined receive byte any, and every other instruction none (R437, R447, R449). -/
inductive PacketAlerts (s : State) (i : Instr) (t : State) : Prop where
  | stand (alerts : s.sensor.AlertsStand t.sensor)
  | statusRead (a : SmbAddr) (selected : sensorSelects s a = true)
      (reads : i = .rs a ∨ (i = .receiveByte a ∧ s.sensor.cmdValid = true ∧ s.sensor.cmdPointer = 0x02))
      (effect : t.sensor.alerts = s.sensor.statusRead.alerts)
  | undefined (a : SmbAddr) (selected : sensorSelects s a = true) (receives : i = .receiveByte a)
      (invalid : s.sensor.cmdValid = false)
  | response (is_ara : i = .ara) (alarms : s.sensor.AlarmsStand t.sensor)

theorem PacketAlerts.of_sensor_eq {s t : State} {i : Instr} (same : t.sensor = s.sensor) : PacketAlerts s i t :=
  .stand (.of_eq (congrArg Sensor.alerts same))

theorem OnlyMemories.packetAlerts {s t : State} (h : OnlyMemories s t) (i : Instr) : PacketAlerts s i t :=
  .of_sensor_eq (by rw [h])

theorem sensorRead_alerts (s : State) (a : SmbAddr) {c : Byte} (plain : c ≠ 0x02) :
    (sensorRead s a c).sensor.alerts = s.sensor.alerts := by
  unfold sensorRead
  rw [Sensor.afterRead_of_ne plain]
  split <;> rfl

theorem sensorWrite_alerts {s : State} {x : Sensor} (same : x.alerts = s.sensor.alerts) (a : SmbAddr) (c : Byte) :
    (sensorWrite s a c x).sensor.alerts = s.sensor.alerts := by
  unfold sensorWrite
  split
  · exact same
  · rfl

theorem exec_rs_alerts {a : SmbAddr} {s t : State} (h : exec (.rs a) s = .next t) : PacketAlerts s (.rs a) t := by
  cases selected : sensorSelects s a with
  | true =>
    rw [exec_rs_of_selects selected] at h
    cases h
    exact .statusRead a selected (.inl rfl) rfl
  | false =>
    cases h
    exact .of_sensor_eq (by rw [sensorRead_of_not_selects selected]; rfl)

theorem exec_osht_alerts {a : SmbAddr} {s t : State} (h : exec (.osht a) s = .next t) : PacketAlerts s (.osht a) t := by
  cases h
  refine .stand (.of_eq ?_)
  split
  · exact Sensor.oneShot_alerts s.sensor
  · rfl

theorem exec_ara_alerts {s t : State} (h : exec .ara s = .next t) : PacketAlerts s .ara t := by
  cases h
  refine .response rfl ?_
  (repeat' split) <;> exact ⟨id, id, id⟩

theorem exec_receiveByte_alerts {a : SmbAddr} {s t : State} (h : exec (.receiveByte a) s = .next t) :
    PacketAlerts s (.receiveByte a) t := by
  cases selected : sensorSelects s a with
  | false =>
    simp only [exec, execReceiveByte, selected] at h
    cases h
    exact .of_sensor_eq rfl
  | true =>
    cases valid : s.sensor.cmdValid with
    | false => exact .undefined a selected rfl valid
    | true =>
      rw [exec_receiveByte_of_valid selected valid] at h
      cases h
      by_cases status : s.sensor.cmdPointer = 0x02
      · refine .statusRead a selected (.inr ⟨rfl, valid, status⟩) ?_
        rw [status]
        rfl
      · exact .of_sensor_eq (by simp [Sensor.afterRead_of_ne status])

theorem exec_packet_alerts {c : OpenCells} {i : Instr} {items : List HostItem} (packet : encode c i = .packet items)
    {s t : State} (h : exec i s = .next t) : PacketAlerts s i t := by
  have written {a : SmbAddr} {c : Byte} {x : Sensor} (i : Instr) (same : x.alerts = s.sensor.alerts) :
      PacketAlerts s i (sensorWrite s a c x) := .stand (.of_eq (sensorWrite_alerts same a c))
  have read {a : SmbAddr} {c : Byte} (i : Instr) (plain : c ≠ 0x02) : PacketAlerts s i (sensorRead s a c) :=
    .stand (.of_eq (sensorRead_alerts s a plain))
  cases i <;> simp only [encode, encodeRequest, reduceCtorEq] at packet
  case eeCurrentAddressRead => cases h; exact (memoryRead_frame ..).packetAlerts _
  case eeRandomRead => cases h; exact (memoryRead_frame ..).packetAlerts _
  case eeSequentialRead => cases h; exact (memoryRead_frame ..).packetAlerts _
  case eeByteWrite => cases h; exact (scratchWrite_frame ..).packetAlerts _
  case eePageWrite => cases h; exact (scratchWrite_frame ..).packetAlerts _
  case eeWriteToPirom => cases h; exact (protectedWrite_frame ..).packetAlerts _
  case eeWriteProtected => cases h; exact (protectedWrite_frame ..).packetAlerts _
  case rrt => cases h; exact read _ (by decide)
  case rs => exact exec_rs_alerts h
  case rc => cases h; exact read _ (by decide)
  case rcr => cases h; exact read _ (by decide)
  case rrhl => cases h; exact read _ (by decide)
  case rrll => cases h; exact read _ (by decide)
  case wc => rw [(unlessMalformed_next h).2]; exact written _ (Sensor.writeConfig_alerts ..)
  case wcr => rw [(unlessMalformed_next h).2]; exact written _ rfl
  case wrhl => cases h; exact written _ rfl
  case wrll => cases h; exact written _ rfl
  case osht => exact exec_osht_alerts h
  case ara => exact exec_ara_alerts h
  case receiveByte => exact exec_receiveByte_alerts h
  case sensorReservedCommand =>
    simp only [exec, execSensorReservedCommand] at h
    split at h <;> cases h
    exact .of_sensor_eq rfl

/-- What a step can do to the alerts: run a packet's instruction, apply the supply, or take none back. -/
inductive StepAlerts (s t : State) : Prop where
  | stand (alerts : s.sensor.AlertsStand t.sensor)
  | packet (items : List HostItem) (rest : List Input) (i : Instr) (next : s.Next (.packet items) rest)
      (decoded : decode s.platform.cells s.platform.smwp (.packet items) = .instr i)
      (alerts : PacketAlerts { s with inputs := rest } i t)
  | powerUp (busy : Bool) (rest : List Input) (next : s.Next (.smbusPower true busy) rest)
      (off : s.platform.smbusPower = false)

theorem loadAddressPacket_sensor (sel : EeSel) (da : Byte) (s : State) : (loadAddressPacket sel da s).sensor = s.sensor := by
  unfold loadAddressPacket
  split <;> simp

theorem probePacket_sensor (a : SmbAddr) (s : State) : (probePacket a s).sensor = s.sensor := by
  unfold probePacket
  split <;> rfl

theorem abandonedReadPacket_alerts {a : SmbAddr} {c : Byte} {x : Bool} {s t : State}
    (h : abandonedReadPacket a c x s = .next t) : t.sensor.alerts = s.sensor.alerts := by
  rcases abandonedReadPacket_cases h with rfl | rfl <;> rfl

/-- Of the packets only one that decodes to an instruction can take an alert back. -/
theorem runPacket_alerts {c : OpenCells} {smwp : Bool} {items : List HostItem} {s t : State}
    (h : runPacket (decode c smwp (.packet items)) s = .next t) :
    s.sensor.AlertsStand t.sensor ∨ ∃ i, decode c smwp (.packet items) = .instr i ∧ PacketAlerts s i t := by
  rcases runPacket_cases h with ⟨i, decoded, run⟩ | ⟨sel, da, _, rfl⟩ | ⟨a, _, rfl⟩ | ⟨a, d, x, _, run⟩ | ⟨l, _, _, rfl⟩
  · obtain ⟨l, packet⟩ := decode_packet_encode decoded
    exact .inr ⟨i, decoded, exec_packet_alerts packet run⟩
  · exact .inl (.of_eq (by rw [loadAddressPacket_sensor]))
  · exact .inl (.of_eq (by rw [probePacket_sensor]))
  · exact .inl (.of_eq (abandonedReadPacket_alerts run))
  · exact .inl (.refl _)

theorem sensorTime_alertsStand (us : Nat) (error : Int) (s : State) :
    s.sensor.AlertsStand (sensorTime us error s).sensor := by
  unfold sensorTime
  split
  · simp only [State.drew_sensor, State.setSensor_sensor]
    split
    · exact Sensor.convertTime_alertsStand ..
    · exact .of_eq (Sensor.idleTime_alerts ..)
  · exact .refl _

theorem sensorRate_alertsStand (mill : Nat) (s : State) : s.sensor.AlertsStand (sensorRate mill s).sensor := by
  unfold sensorRate
  split <;> exact .of_eq rfl

theorem smbusPower_of_off {s : State} (off : s.platform.smbusPower = false) (busy : Bool) :
    smbusPower true busy s = smbusPowerUp busy s := by
  simp [smbusPower, off]

/-- The supply applied to a package that had none (R431). -/
theorem step_smbusPowerUp {s : State} {busy : Bool} {rest : List Input} (next : s.Next (.smbusPower true busy) rest)
    (off : s.platform.smbusPower = false) : step s = .next (smbusPowerUp busy { s with inputs := rest }) := by
  rw [step_next next]
  exact congrArg _ (smbusPower_of_off (s := { s with inputs := rest }) off busy)

/-- The supply already on, applied again, is no change. -/
theorem smbusPower_of_on {s : State} (on : s.platform.smbusPower = true) (busy : Bool) : smbusPower true busy s = s := by
  simp [smbusPower, on]

/-- Of the events that reach the devices a packet and the supply can take an alert back. -/
theorem runInput_smbus_alerts {x : Input} {rest : List Input} {s t : State} (next : s.Next x rest)
    (smbus : x.isSmbus = true) (run : runInput x { s with inputs := rest } = .next t) : StepAlerts s t := by
  cases x <;> cases smbus
  case packet items =>
    rcases runPacket_alerts (s := { s with inputs := rest }) run with alerts | ⟨i, decoded, alerts⟩
    · exact .stand alerts
    · exact .packet items rest i next decoded alerts
  case packetSmwpChange => cases run
  case sensorTime us error => cases run; exact .stand (sensorTime_alertsStand us error { s with inputs := rest })
  case diode isOpen => cases run; exact .stand (.of_eq rfl)
  case sensorRate mill => cases run; exact .stand (sensorRate_alertsStand mill { s with inputs := rest })
  case smbusPower on busy =>
    cases run
    cases on with
    | false => exact .stand (.refl _)
    | true =>
      cases supply : s.platform.smbusPower with
      | false => exact .powerUp busy rest next supply
      | true =>
        rw [smbusPower_of_on (s := { s with inputs := rest }) supply busy]
        exact .stand (.refl _)

theorem step_alerts {s t : State} (h : step s = .next t) : StepAlerts s t := by
  rcases step_smbus_or_sheltered h with ⟨x, rest, next, smbus, run⟩ | sheltered
  · exact runInput_smbus_alerts next smbus run
  · obtain ⟨_, _, sensor⟩ := sheltered.devices
    exact .stand (.of_eq (congrArg Sensor.alerts sensor))

/-- An alarm bit that a read of STATUS clears has lost its condition (R437). -/
theorem Sensor.cleared_by_statusRead {x y : Sensor} (effect : y.alerts = x.statusRead.alerts) :
    (x.rhigh = true → y.rhigh = false → x.temp.toInt < x.thigh.toInt) ∧
      (x.rlow = true → y.rlow = false → x.tlow.toInt < x.temp.toInt) ∧
      (x.openFault = true → y.openFault = false → x.openCond = false) := by
  simp only [Sensor.alerts, Sensor.statusRead, Prod.mk.injEq] at effect
  obtain ⟨rhigh, rlow, openFault, _⟩ := effect
  refine ⟨fun set clear => ?_, fun set clear => ?_, fun set clear => ?_⟩
  · simpa [rhigh, set, highCond] using clear
  · simpa [rlow, set, lowCond] using clear
  · simpa [openFault, set] using clear

/-! ### The statements -/

/-- Settles O27: of all that a step can do to the alarm bits, a read of STATUS, an undefined receive byte and the sensor's own
power-up remain. -/
theorem alarmBitsClearedOnlyByStatusRead : Obligations.AlarmBitsClearedOnlyByStatusRead := by
  intro s t h cleared
  cases step_alerts h with
  | stand alerts => exact absurd cleared alerts.not_cleared
  | powerUp busy rest next off => exact .inr ⟨busy, rest, next, off⟩
  | packet items rest i next decoded alerts =>
    cases alerts with
    | stand alerts => exact absurd cleared alerts.not_cleared
    | response _ alarms => exact absurd cleared alarms.not_cleared
    | statusRead a selected reads effect =>
      refine .inl ⟨items, rest, a, next, selected, .inl ⟨?reads, Sensor.cleared_by_statusRead effect⟩⟩
      rcases reads with rfl | ⟨rfl, valid, pointer⟩
      · exact .inl decoded
      · exact .inr ⟨decoded, valid, pointer⟩
    | undefined a selected receives invalid =>
      subst receives
      exact .inl ⟨items, rest, a, next, selected, .inr ⟨decoded, invalid⟩⟩

/-- Settles O28: THRMALERT# is the latch, and of all that a step can do to it the ARA, an undefined receive byte and power-up
release it. -/
theorem alertLatchClearedOnlyByAra : Obligations.AlertLatchClearedOnlyByAra := by
  intro s t h set released
  have not_kept (kept : s.sensor.alertLatch = true → t.sensor.alertLatch = true) : False :=
    Bool.eq_false_iff.mp released (kept set)
  cases step_alerts h with
  | stand alerts => exact (not_kept alerts.latch).elim
  | powerUp busy rest next off => exact .inr ⟨busy, rest, next, off⟩
  | packet items rest i next decoded alerts =>
    cases alerts with
    | stand alerts => exact (not_kept alerts.latch).elim
    | statusRead a _ _ effect =>
      have latch : t.sensor.alertLatch = s.sensor.alertLatch := congrArg (·.2.2.2) effect
      exact (not_kept latch.trans).elim
    | response is_ara =>
      subst is_ara
      exact .inl ⟨items, rest, next, .inl decoded⟩
    | undefined a _ receives invalid =>
      subst receives
      exact .inl ⟨items, rest, next, .inr ⟨a, decoded, invalid⟩⟩

/-- Settles O21: each of the five is a read byte packet of a plain register. -/
theorem sensorReads : Obligations.SensorReads := by
  intro s a selected
  have read (c v : Byte) (plain : (c, v) ∈ s.sensor.plainRegisters) :
      ∃ t, (.next (sensorRead s a c) : Host.Outcome State Fault Refusal) = .next t ∧ OnlySensor s t ∧
        t.answer = [.ack, .ack, .ack, .data v] ∧ t.sensor = { s.sensor with cmdPointer := c, cmdValid := true } := by
    refine ⟨_, rfl, sensorRead_frame .., ?_⟩
    rw [sensorRead_of_selects selected, Sensor.value_of_plain plain, Sensor.afterRead_of_plain plain]
    exact ⟨rfl, rfl⟩
  simp only [List.forall_mem_cons]
  refine ⟨read _ _ ?_, read _ _ ?_, read _ _ ?_, read _ _ ?_, read _ _ ?_, List.forall_mem_nil _⟩ <;>
    simp [Sensor.plainRegisters]

/-- Settles O22: the byte is STATUS as it stood, whatever its reserved bits are. -/
theorem statusRead : Obligations.StatusRead := by
  intro s a selected
  obtain ⟨busy, rhigh, rlow, is_open⟩ := statusByte_bits s.sensor (Config.freeByte s.free)
  exact ⟨_, _, exec_rs_of_selects selected, rfl, rfl, busy, rhigh, rlow, is_open, rfl⟩

/-- Settles O23: a legal byte is written; what follows a write of CONFIG depends on RUN/STOP before and after it. -/
theorem sensorWrites : Obligations.SensorWrites := by
  refine ⟨fun s a d selected legal => ?config, fun s a d selected => ⟨fun legal => ?rate, ?high, ?low⟩⟩
  case config =>
    obtain ⟨frame, answer, sensor⟩ :=
      sensorWrite_of_selects selected 0x09 (s.sensor.writeConfig d (Config.freeTime s.free))
    refine ⟨_, sensorWrite_checked_of_legal (configMalformed_of_legal legal) .., frame, answer, ?_⟩
    rw [sensor]
    generalize Config.freeTime s.free = free
    split
    case isTrue same =>
      rw [Sensor.writeConfig_same same]
      rfl
    case isFalse changed =>
      split
      case isTrue stop =>
        rw [Sensor.writeConfig_stop changed stop]
        rfl
      case isFalse run =>
        split
        case isTrue was_standby =>
          rw [Sensor.writeConfig_run changed run was_standby]
          exact ⟨_, Nat.le_of_lt_succ (Nat.mod_lt free (Nat.succ_pos _)), rfl⟩
        case isFalse was_running =>
          rw [Sensor.writeConfig_running changed run was_running]
          rfl
  case rate =>
    exact ⟨_, sensorWrite_checked_of_legal (rateMalformed_of_legal legal) .., sensorWrite_of_selects selected ..⟩
  case high => exact ⟨_, rfl, sensorWrite_of_selects selected ..⟩
  case low => exact ⟨_, rfl, sensorWrite_of_selects selected ..⟩

/-- Settles O24: whether a conversion is in progress, and if not whether the sensor is in standby. -/
theorem oneShot : Obligations.OneShot := by
  intro s a selected
  refine ⟨_, exec_osht_of_selects selected, rfl, rfl, rfl, ?_⟩
  simp only [State.answered_sensor, State.setSensor_sensor]
  split
  case isTrue converting =>
    rw [Sensor.oneShot_converting converting]
    rfl
  case isFalse idle =>
    split
    case isTrue in_standby =>
      rw [Sensor.oneShot_standby idle in_standby]
      rfl
    case isFalse auto =>
      rw [Sensor.oneShot_auto idle auto]
      rfl

/-- Settles O25: the transfer is lost exactly to a rival of a lower address. -/
theorem alertResponse : Obligations.AlertResponse := by
  rintro s own supply latch rfl
  rw [exec_ara_of_alerting supply latch]
  refine ⟨fun no_lower => ?answered, fun r rival lower => ?lost⟩
  case answered =>
    have won : ¬ araLost s = true := by
      rw [araLost_iff]
      rintro ⟨r, rival, lower⟩
      exact Nat.not_lt.mpr (no_lower r rival) lower
    rw [if_neg won]
    rfl
  case lost =>
    rw [if_pos ((araLost_iff s).mpr ⟨r, rival, lower⟩)]
    rfl

/-- Settles O26: by whether a read byte packet came before, and whether it was that of STATUS. -/
theorem receiveByte : Obligations.ReceiveByte := by
  intro s a selected
  refine ⟨fun valid => ⟨fun x plain pointer => ?plain, fun pointer => ?status⟩, fun invalid => ?undefined⟩
  case plain =>
    refine ⟨_, exec_receiveByte_of_valid selected valid, rfl, ?_⟩
    rw [pointer, Sensor.value_of_plain plain, Sensor.afterRead_of_plain plain]
    exact ⟨rfl, rfl⟩
  case status =>
    refine ⟨_, _, _, exec_receiveByte_of_valid selected valid, exec_rs_of_selects selected, rfl, ?_, rfl, ?_⟩
    · rw [pointer, Sensor.commanded_eq_self pointer valid]
      exact (Sensor.commanded_eq_self (x := s.sensor.statusRead) pointer valid).symm
    · rw [pointer]
      rfl
  case undefined => exact ⟨_, _, exec_receiveByte_of_invalid selected invalid, rfl, rfl⟩

end Sys2Proof.Machine

namespace Sys2Proof
open Machine

/-- Settles O30: the supply was off, so the sensor resets itself. Outside the model's namespace, in which its operation has the
name already. -/
theorem smbusPowerUp : Obligations.SmbusPowerUp := by
  intro s busy rest next off
  exact ⟨_, step_smbusPowerUp next off, rfl, rfl, rfl, rfl, rfl, rfl, rfl, rfl, rfl, rfl, rfl, rfl, rfl, rfl, rfl, rfl⟩

end Sys2Proof
end

section
/-! PROOF. Arbitration among the symmetric agents (R629, R632 to R635; O49), and the owner of the bus at the lowest priority
whatever happens (R634, R642, R779; O10). -/

namespace Sys2Proof.Machine

/-! ### The next owner -/

/-- The agents in the order in which they are looked at (R633). -/
theorem eq_of_rotation (r m : BitVec 2) : m = r + 1 ∨ m = r + 2 ∨ m = r + 3 ∨ m = r := by
  revert r m
  decide

/-- How far each of them stands behind the rotating ID. -/
theorem rotation_distances (r : BitVec 2) :
    (r + 1 - r - 1).toNat = 0 ∧ (r + 2 - r - 1).toNat = 1 ∧ (r + 3 - r - 1).toNat = 2 ∧ (r - r - 1).toNat = 3 := by
  revert r
  decide

/-- The bus goes to a requester, if there is one. -/
theorem request_newOwner {request : BitVec 2 → Bool} {m : BitVec 2} (r : BitVec 2) (requester : request m = true) :
    request (newOwner r request) = true := by
  unfold newOwner
  split
  case isTrue first => exact first
  case isFalse not_first =>
    split
    case isTrue second => exact second
    case isFalse not_second =>
      split
      case isTrue third => exact third
      case isFalse not_third =>
        rcases eq_of_rotation r m with rfl | rfl | rfl | rfl
        · exact absurd requester not_first
        · exact absurd requester not_second
        · exact absurd requester not_third
        · exact requester

/-- No requester stands before the next owner. -/
theorem newOwner_first {request : BitVec 2 → Bool} {m : BitVec 2} (r : BitVec 2) (requester : request m = true) :
    (newOwner r request - r - 1).toNat ≤ (m - r - 1).toNat := by
  obtain ⟨at_first, at_second, at_third, at_last⟩ := rotation_distances r
  unfold newOwner
  rcases eq_of_rotation r m with rfl | rfl | rfl | rfl
  · rw [if_pos requester]
  · rw [if_pos requester]
    split <;> omega
  · rw [if_pos requester]
    (repeat' split) <;> omega
  · (repeat' split) <;> omega

/-! ### The clock's arbitration -/

theorem anyRequest_iff (b : Bus) (br : BitVec 3) : anyRequest b br = true ↔ ∃ n, requestOf b br n = true := by
  have pins : anyRequest b br = true ↔ ∃ k, requestPin b br k = true := by
    simp only [anyRequest, Bool.or_eq_true]
    refine ⟨?_, fun ⟨k, requests⟩ => ?_⟩
    · rintro (((h | h) | h) | h) <;> exact ⟨_, h⟩
    · rcases eq_of_rotation 0 k with rfl | rfl | rfl | rfl <;> simp_all
  rw [pins]
  refine ⟨fun ⟨k, requests⟩ => ⟨k + b.arbId, ?_⟩, fun ⟨n, requests⟩ => ⟨_, requests⟩⟩
  rw [requestOf, BitVec.add_sub_cancel]
  exact requests

theorem anyRequest_eq_false {b : Bus} {br : BitVec 3} (nobody : ∀ n, requestOf b br n = false) :
    anyRequest b br = false := by
  refine Bool.eq_false_iff.mpr fun somebody => ?_
  obtain ⟨n, requests⟩ := (anyRequest_iff b br).mp somebody
  exact absurd requests (Bool.eq_false_iff.mp (nobody n))

theorem Bus.arbitrate_of_parked {b : Bus} {br : BitVec 3} {o : BitVec 2} (owner : b.owner = some o)
    (requests : requestOf b br o = true) : b.arbitrate br = b := by
  simp [Bus.arbitrate, owner, requests]

theorem Bus.arbitrate_of_no_request {b : Bus} {br : BitVec 3} (nobody : ∀ n, requestOf b br n = false) :
    b.arbitrate br = { b with owner := none } := by
  have none_asserted := anyRequest_eq_false nobody
  cases owner : b.owner with
  | none =>
    have unchanged : b.arbitrate br = b := by simp [Bus.arbitrate, owner, none_asserted]
    rw [unchanged, ← owner]
  | some o => simp [Bus.arbitrate, owner, nobody, none_asserted]

theorem Bus.arbitrate_of_release {b : Bus} {br : BitVec 3} (released : ∀ o, b.owner = some o → requestOf b br o = false)
    (somebody : ∃ n, requestOf b br n = true) : b.arbitrate br = b.grant br := by
  have asserted := (anyRequest_iff b br).mpr somebody
  cases owner : b.owner with
  | none => simp [Bus.arbitrate, owner, asserted]
  | some o => simp [Bus.arbitrate, owner, released o owner, asserted]

/-- Settles O49, one lemma for each outcome of R632; who is granted the bus is `newOwner`. -/
theorem arbitration : Obligations.Arbitration := by
  rintro b c br rfl
  refine ⟨fun o => Bus.arbitrate_of_parked, Bus.arbitrate_of_no_request, fun released somebody => ?_⟩
  obtain ⟨m, requester⟩ := somebody
  exact ⟨newOwner b.rotatingId (requestOf b br), Bus.arbitrate_of_release released ⟨m, requester⟩,
    request_newOwner _ requester, fun _ => newOwner_first _⟩

/-! ### What keeps the owner and the rotating ID -/

/-- What arbitration decides: the owner and the rotating ID (R632, R634). -/
def Bus.arbiter (b : Bus) : Option (BitVec 2) × BitVec 2 := (b.owner, b.rotatingId)

/-- `State.OwnerLast`, of the bus agent alone. -/
def Bus.OwnerLast (b : Bus) : Prop := ∀ o, b.owner = some o → b.rotatingId = o

theorem State.ownerLast_iff (s : State) : s.OwnerLast ↔ s.bus.OwnerLast := Iff.rfl

theorem Bus.OwnerLast.of_arbiter_eq {b c : Bus} (h : b.OwnerLast) (same : c.arbiter = b.arbiter) : c.OwnerLast := by
  simp only [Bus.arbiter, Prod.mk.injEq] at same
  obtain ⟨owner, rotating⟩ := same
  intro o owned
  rw [rotating]
  exact h o (owner ▸ owned)

/-- An idle bus has no owner to speak of. -/
theorem Bus.OwnerLast.of_idle {b : Bus} (idle : b.owner = none) : b.OwnerLast := by
  intro o owned
  rw [idle] at owned
  cases owned

theorem Bus.arbitrate_ownerLast {b : Bus} (h : b.OwnerLast) (br : BitVec 3) : (b.arbitrate br).OwnerLast := by
  have granted : (b.grant br).OwnerLast := fun o owned => Option.some.inj owned
  unfold Bus.arbitrate
  split
  · split
    · exact granted
    · exact h
  · split
    · exact h
    · split
      · exact granted
      · exact .of_idle rfl

/-- Arbitration is the one thing in a clock that moves them, and none happens in the configuration window (R634, R777). -/
theorem Bus.arbitrateClock_ownerLast {b : Bus} (h : b.OwnerLast) (br : BitVec 3) : (b.arbitrateClock br).OwnerLast := by
  unfold Bus.arbitrateClock
  split
  · exact Bus.arbitrate_ownerLast h br
  · exact h

theorem deferredPhase_arbiter (q : Pins) (s : State) : (deferredPhase q s).bus.arbiter = s.bus.arbiter := by
  unfold deferredPhase
  rcases matchDeferred_cases q s.bus with ⟨_, _, _, _, _, taken⟩ | ⟨_, same⟩
  · simp only [taken]
    rfl
  · simp only [same]
    rfl

theorem snoopPhase_arbiter (q : Pins) (s : State) : (snoopPhase q s).bus.arbiter = s.bus.arbiter := by
  unfold snoopPhase
  split <;> rfl

theorem dataPhase_arbiter (q : Pins) (s : State) : (dataPhase q s).bus.arbiter = s.bus.arbiter := by
  unfold dataPhase
  split <;> rfl

theorem retire_arbiter (s : State) : (retire s).bus.arbiter = s.bus.arbiter := by
  unfold retire
  repeat' split
  all_goals rfl

theorem startRequest_arbiter (c : OpenCells) (b : Bus) (q : OutReq) (rest : List OutReq) (tid : BitVec 5) :
    (startRequest c b q rest tid).arbiter = b.arbiter := by
  dsimp only [startRequest]
  split <;> rfl

theorem issueStep_arbiter (q : Pins) (s : State) : (issueStep q s).bus.arbiter = s.bus.arbiter := by
  rcases issueStep_cases q s with same | ⟨_, _, clock_b⟩ | ⟨_, _, _, _, _, _, _, _, clock_a⟩
  · rw [same]
  · rw [clock_b]
    rfl
  · rw [clock_a]
    exact startRequest_arbiter ..

/-- In a clock the owner and the rotating ID are what its arbitration makes of them. -/
theorem clockPrologue_arbiter (p : Pins) (s : State) :
    ∃ (b : Bus) (br : BitVec 3), b.arbiter = s.bus.arbiter ∧
      (clockPrologue p s).bus.arbiter = (b.arbitrateClock br).arbiter := by
  have answered (q : Pins) (s : State) : (responsePhase q s).bus.arbiter = s.bus.arbiter := rfl
  have flags (b : Bus) (q : Pins) : (b.sampleFlags q).arbiter = b.arbiter := rfl
  have requested (b : Bus) (q : Pins) : (b.driveBreq q).arbiter = b.arbiter := rfl
  refine ⟨(samplePins (merged s p) s).bus.freshOut (parityError s (merged s p)), (merged s p).br, rfl, ?_⟩
  simp only [clockPrologue, clockPhases, requested, issueStep_arbiter, retire_arbiter, dataPhase_arbiter, answered,
    snoopPhase_arbiter, deferredPhase_arbiter, sampleTnd_bus, flags, sampleBerr_bus]

theorem clockPrologue_ownerLast (p : Pins) {s : State} (h : s.OwnerLast) : (clockPrologue p s).OwnerLast := by
  obtain ⟨b, br, same, arbitrated⟩ := clockPrologue_arbiter p s
  have before : b.OwnerLast := ((State.ownerLast_iff s).mp h).of_arbiter_eq same
  exact (State.ownerLast_iff _).mpr ((Bus.arbitrateClock_ownerLast before br).of_arbiter_eq arbitrated)

/-! ### Every event -/

theorem RequestFrame.arbiter_eq {s t : State} (h : RequestFrame s t) : t.bus.arbiter = s.bus.arbiter := by
  rw [h.bus]
  rfl

theorem OnlyCore.arbiter_eq {s t : State} (h : OnlyCore s t) : t.bus.arbiter = s.bus.arbiter := by
  rw [h]
  rfl

theorem OnlySmbusOrSupply.arbiter_eq {s t : State} (h : OnlySmbusOrSupply s t) : t.bus.arbiter = s.bus.arbiter := by
  rw [h]

theorem runClock_ownerLast {p : Pins} {s t : State} (h : runClock p s = .next t) (last : s.OwnerLast) : t.OwnerLast := by
  rcases runClock_cases h with rfl | rfl | ⟨c, r, w, i, request, run⟩ | ⟨l, rfl⟩
  · exact last
  · exact Bus.OwnerLast.of_idle rfl
  · exact Bus.OwnerLast.of_arbiter_eq (clockPrologue_ownerLast p last) (exec_request_frame request run).arbiter_eq
  · exact clockPrologue_ownerLast p last

/-- A trip leaves the bus without an owner; ETM does not reach the bus agent (R365). -/
theorem thermalStep_ownerLast (us : Nat) {s : State} (last : s.OwnerLast) : (thermalStep us s).OwnerLast := by
  rcases thermalStep_cases us s with same | trip | cmci | etm
  · rw [same]
    exact last
  · rw [trip]
    exact Bus.OwnerLast.of_idle rfl
  · rw [cmci]
    exact last
  · rw [etm]
    exact last

theorem coreAct_ownerLast (a : CoreAct) {s : State} (last : s.OwnerLast) : (coreAct a s).OwnerLast := by
  unfold coreAct
  split
  · cases a with
    | etm e => exact thermalStep_ownerLast 0 last
    | request i data endian =>
      rw [coreActEffect]
      split <;> exact last
    | _ => exact last
  · exact last

theorem purgeDone_ownerLast {s : State} (last : s.OwnerLast) : (purgeDone s).OwnerLast := by
  rcases purgeDone_cases s with same | ⟨r, rest, _, _, purged⟩
  · rw [same]
    exact last
  · rw [purged]
    exact last

theorem runInput_processor_ownerLast {x : Input} {s t : State} (processor : x.isProcessor = true)
    (h : runInput x s = .next t) (last : s.OwnerLast) : t.OwnerLast := by
  cases x <;> cases processor
  case clock p => exact runClock_ownerLast h last
  case core i =>
    rcases runCore_cases h with rfl | ⟨core, run⟩
    · exact last
    · exact Bus.OwnerLast.of_arbiter_eq last (exec_core_frame core run).1.arbiter_eq
  case coreAct a => cases h; exact coreAct_ownerLast a last
  case coreInterrupt => cases h; exact Bus.OwnerLast.of_arbiter_eq last (takeInterrupt_frame s).arbiter_eq
  case purgeDone => cases h; exact purgeDone_ownerLast last

theorem powerStep_ownerLast {next : PowerState} {s t : State} (h : powerStep next s = .next t) (last : s.OwnerLast) :
    t.OwnerLast := by
  unfold powerStep at h
  split at h
  · cases h
  · split at h
    · cases h
    · obtain rfl := Host.Outcome.next.inj h
      refine thermalStep_ownerLast 0 ?_
      split
      · split <;> exact Bus.OwnerLast.of_idle rfl
      · exact last

/-- RESET# and the loss of power leave no owner, nothing else of the platform reaches arbitration (R779). -/
theorem runInput_platform_ownerLast {x : Input} {s t : State} (not_processor : x.isProcessor = false)
    (not_smbus : x.isSmbus = false) (h : runInput x s = .next t) (last : s.OwnerLast) : t.OwnerLast := by
  cases x <;> cases not_processor <;> cases not_smbus
  case dieTemp | thermal => cases h; exact thermalStep_ownerLast _ last
  case resetAssert => cases h; exact Bus.OwnerLast.of_idle rfl
  case resetRelease r =>
    rcases resetRelease_next_cases h with rfl | ⟨a, rfl⟩
    · exact last
    · exact thermalStep_ownerLast 0 last
  case power next => exact powerStep_ownerLast h last
  case smwp | araRival => cases h; exact last
  case pwrgood | measure | overshoot | platformCheck =>
    simp only [runInput, setPwrgood, measured, overshootSeen, platformCheck] at h
    (repeat' split at h) <;> cases h
    exact last

theorem runInput_ownerLast {x : Input} {s t : State} (h : runInput x s = .next t) (last : s.OwnerLast) :
    t.OwnerLast := by
  cases smbus : x.isSmbus with
  | true => exact Bus.OwnerLast.of_arbiter_eq last (runInput_smbus smbus h).2.arbiter_eq
  | false =>
    cases processor : x.isProcessor with
    | true => exact runInput_processor_ownerLast processor h last
    | false => exact runInput_platform_ownerLast processor smbus h last

/-- Settles O10: arbitration grants the bus to the agent it makes last, the resets leave no owner, and nothing else reaches
either. -/
theorem stepKeepsOwnerLast : Obligations.StepKeepsOwnerLast := by
  intro s t last h
  rcases step_cases h with ⟨r, _, run⟩ | ⟨_, _, rfl⟩ | ⟨x, rest, _, run⟩
  · obtain ⟨k, rfl⟩ := exec_special_marks (decodeSpecial_encode OpenCells.default r) run
    exact last
  · exact last
  · exact runInput_ownerLast (s := { s with inputs := rest }) run last

end Sys2Proof.Machine
end

section
/-! PROOF. The requests of Table A-10 and the special transactions as this processor observes them (R77, R78, R600 to R622, R164,
R450, R664; O31, O32, O35, O36), and the deferred transactions they and a deferred phase take up (R171, R601, R626; O33). -/

namespace Sys2Proof.Machine

/-! ### The end of a request phase -/

theorem unlessMalformed_of_eq_none {m : Option Malformed} (well_formed : m = none) (s : State) :
    unlessMalformed m s = .next s := by
  rw [well_formed, unlessMalformed_none]

theorem unlessMalformed_of_eq_some {m : Option Malformed} {x : Malformed} (broken : m = some x) (s : State) :
    unlessMalformed m s = .refused (malformedRefusal x) := by
  rw [broken, unlessMalformed]

/-- The queue and the own request phase are all that `Enters` speaks of. -/
theorem Enters.of_append {s t : State} {row : BusRow} {r : Request} {flag : Bool} {len : BitVec 3}
    (ioq : t.bus.ioq = (s.append row r flag len).bus.ioq) (issuing : t.bus.issuing = (s.append row r flag len).bus.issuing) :
    Enters s t row r flag len :=
  ⟨newTxn row r flag len (s.bus.sourceOf r), ioq, rfl, rfl, rfl, rfl, rfl, rfl, rfl, rfl, issuing⟩

/-- A request with no effect but its transaction, run where it breaks no rule. -/
theorem exec_enters {i : Instr} {s : State} {m : Option Malformed} {row : BusRow} {r : Request} {flag : Bool}
    {len : BitVec 3} (run : exec i s = unlessMalformed m (s.append row r flag len)) (well_formed : m = none) :
    ∃ t, exec i s = .next t ∧ OnlyQueue s t ∧ Enters s t row r flag len :=
  ⟨_, run.trans (unlessMalformed_of_eq_none well_formed _), rfl, .of_append rfl rfl⟩

/-- Settles O31: each of the rows is `State.append` behind its rules. -/
theorem requestsEnterTheQueue : Obligations.RequestsEnterTheQueue := by
  refine ⟨fun s r asz bit len x access wf => ?_, fun s r low well_formed => ⟨fun x plain => ?_, ?_⟩⟩
  · have well_formed : x.1.malformed = none := Option.isNone_iff_eq_none.mp wf
    simp only [List.mem_cons, List.not_mem_nil, or_false] at access
    rcases access with rfl | rfl | rfl | rfl | rfl <;> exact exec_enters rfl well_formed
  · simp only [List.mem_cons, List.not_mem_nil, or_false] at plain
    rcases plain with rfl | rfl | rfl <;> exact exec_enters rfl well_formed
  · exact ⟨_, unlessMalformed_of_eq_none well_formed _, .of_append rfl rfl, rfl, rfl⟩

/-- Another processor's purge is one to be carried out here. -/
theorem observePurge_tnd {r : Request} {s : State} (other : r.isOwn s.bus.arbId = false) :
    tndOut (observePurge r s).bus = true := by
  simp [tndOut, observePurge, other]

theorem observePurge_own {r : Request} {s : State} (own : r.isOwn s.bus.arbId = true) :
    (observePurge r s).bus.tlbPurging = s.bus.tlbPurging := if_pos own

/-- Settles O32: both enter the queue like any request, and then have the effect of their row. -/
theorem interruptAndPurgeObserved : Obligations.InterruptAndPurgeObserved := by
  intro s r well_formed
  refine ⟨⟨_, unlessMalformed_of_eq_none well_formed _, .of_append rfl rfl, rfl, rfl, rfl⟩,
    ⟨_, unlessMalformed_of_eq_none well_formed _, .of_append rfl rfl, rfl, fun other => ?_, fun own => ?_⟩⟩
  · exact observePurge_tnd (s := s.append .purgeTc r false 0) other
  · exact observePurge_own (s := s.append .purgeTc r false 0) own

/-! ### What is reserved -/

theorem configMalformed_of_reserved {d : Byte} (reserved : d &&& 0xBF ≠ 0) : configMalformed d = some .configReserved :=
  if_neg fun legal => reserved (beq_iff_eq.mp legal)

theorem rateMalformed_of_reserved {d : Byte} (reserved : 7 < d.toNat) : rateMalformed d = some .rateReserved :=
  if_neg (Nat.not_le.mpr reserved)

/-- Settles O35: the reserved rows and codes are refused as they stand, a write to the selected sensor by its data byte. -/
theorem reservedIsRefused : Obligations.ReservedIsRefused := by
  refine ⟨fun s r x xx asz low i reserved => ?rows, fun s r => rfl,
    fun s a c d form selected => ⟨if_pos selected, fun reserved => ?config, fun reserved => ?rate⟩⟩
  case rows =>
    simp only [List.mem_cons, List.not_mem_nil, or_false] at reserved
    rcases reserved with rfl | rfl | rfl | rfl | rfl | rfl | rfl <;> rfl
  case config => exact unlessMalformed_of_eq_some ((if_pos selected).trans (configMalformed_of_reserved reserved)) _
  case rate => exact unlessMalformed_of_eq_some ((if_pos selected).trans (rateMalformed_of_reserved reserved)) _

/-! ### The code of a special transaction -/

theorem markNewest_append_singleton (q : List Txn) (x : Txn) (k : SpecialKind) :
    markNewest (q ++ [x]) k = q ++ [{ x with special := some k }] := by
  induction q with
  | nil => rfl
  | cons y q ih =>
    cases q with
    | nil => rfl
    | cons z q => exact congrArg (y :: ·) ih

theorem markSpecial_of_ioq_eq_append {s : State} {q : List Txn} {x : Txn} (queue : s.bus.ioq = q ++ [x])
    (k : SpecialKind) :
    s.markSpecial k = { s with bus := { s.bus with ioq := q ++ [{ x with special := some k }] } } := by
  rw [State.markSpecial, queue, markNewest_append_singleton]

/-- Settles O36: the newest transaction gets the kind its code names. -/
theorem specialsAreKnownByTheirKind : Obligations.SpecialsAreKnownByTheirKind := by
  intro s r q x queue y special
  simp only [List.mem_cons, List.not_mem_nil, or_false] at special
  rcases special with rfl | rfl | rfl | rfl | rfl | rfl | rfl <;>
    exact congrArg Host.Outcome.next (markSpecial_of_ioq_eq_append queue _)

/-! ### The deferred transactions -/

theorem findDeferred_eq_none_iff {l : List (Did × Txn)} {d : Did} :
    findDeferred l d = none ↔ ∀ p ∈ l, p.1 ≠ d := by
  induction l with
  | nil => simp [findDeferred]
  | cons p l ih =>
    by_cases first : p.1 = d
    · simp [findDeferred, first]
    · simp [findDeferred, first, ih]

/-- The entry that is found is the first of its identifier, and the one that is dropped (R601). -/
theorem exists_append_of_findDeferred {l : List (Did × Txn)} {d : Did} {x : Txn} (found : findDeferred l d = some x) :
    ∃ pre post, l = pre ++ (d, x) :: post ∧ dropDeferred l d = pre ++ post ∧ ∀ p ∈ pre, p.1 ≠ d := by
  induction l with
  | nil => cases found
  | cons p l ih =>
    by_cases first : p.1 = d
    · obtain rfl : p.2 = x := by simpa [findDeferred, first] using found
      exact ⟨[], l, by simp [← first], by simp [dropDeferred, first], by simp⟩
    · have later : findDeferred l d = some x := by simpa [findDeferred, first] using found
      obtain ⟨pre, post, table, dropped, before⟩ := ih later
      refine ⟨p :: pre, post, by simp [table], by simp [dropDeferred, first, dropped], fun q hq => ?_⟩
      rcases List.mem_cons.mp hq with rfl | hq
      · exact first
      · exact before q hq

theorem findDeferred_dropDeferred_of_ne (l : List (Did × Txn)) {d e : Did} (other : e ≠ d) :
    findDeferred (dropDeferred l d) e = findDeferred l e := by
  induction l with
  | nil => rfl
  | cons p l ih =>
    by_cases first : p.1 = d
    · simp [dropDeferred, findDeferred, first, other.symm]
    · simp [dropDeferred, findDeferred, first, ih]

/-- Where no two entries share an identifier, the dropped one is found no longer. -/
theorem findDeferred_dropDeferred_self {l : List (Did × Txn)} (distinct : (l.map (·.1)).Nodup) (d : Did) :
    findDeferred (dropDeferred l d) d = none := by
  induction l with
  | nil => rfl
  | cons p l ih =>
    obtain ⟨not_later, distinct⟩ := List.nodup_cons.mp distinct
    by_cases first : p.1 = d
    · have none_left : findDeferred l d = none :=
        findDeferred_eq_none_iff.mpr fun q hq same => not_later (List.mem_map.mpr ⟨q, hq, same.trans first.symm⟩)
      simpa [dropDeferred, first] using none_left
    · simpa [dropDeferred, findDeferred, first] using ih distinct

/-! ### The deferred phase -/

/-- A clock that takes nothing up only latches the identifier on the pins (R626). -/
theorem deferredPhase_of_ignored {q : Pins} {s : State} (ignored : matchDeferred q s.bus = s.bus) :
    deferredPhase q s = { s with bus := { s.bus with idLatch := if q.ids then some q.id else none } } := by
  rw [deferredPhase, ignored]

theorem matchDeferred_of_no_latch {q : Pins} {b : Bus} (no_latch : b.idLatch = none) : matchDeferred q b = b := by
  rw [matchDeferred, no_latch]

theorem matchDeferred_of_unusable {q : Pins} {b : Bus} {ida : Did} (latch : b.idLatch = some ida)
    (unusable : ∀ x, findDeferred b.deferred ida = some x → x.req.b.dps = false) : matchDeferred q b = b := by
  rcases matchDeferred_cases q b with ⟨ida', x, latch', found, dps, _⟩ | ⟨_, same⟩
  · obtain rfl : ida = ida' := Option.some.inj (latch.symm.trans latch')
    exact absurd dps (Bool.eq_false_iff.mp (unusable x found))
  · exact same

theorem matchDeferred_of_found {q : Pins} {b : Bus} {ida : Did} {x : Txn} (latch : b.idLatch = some ida)
    (found : findDeferred b.deferred ida = some x) (dps : x.req.b.dps = true) :
    matchDeferred q b =
      { b with deferred := dropDeferred b.deferred ida,
               ioq := b.ioq ++ [deferredTxn x (q.id.getLsbD 2) q.bilLine] } := by
  simp only [matchDeferred, latch, found, dps, if_true]

/-- Only a Bus Invalidate Line is taken up with a line to come (R608). -/
theorem isBil_of_deferredTxn_bilLine {x : Txn} {dhit line : Bool} (h : (deferredTxn x dhit line).bilLine = true) :
    (deferredTxn x dhit line).isBil = true := (Bool.and_eq_true_iff.mp h).1

/-! ### The Deferred Reply -/

theorem exec_deferredReply {r : Request} {s : State} (well_formed : r.malformedAttr = none) (low : BitVec 3) :
    exec (.deferredReply r low) s = .next (observeReply r s) := unlessMalformed_of_eq_none well_formed _

theorem observeReply_of_found {r : Request} {s : State} {x : Txn} (found : findDeferred s.bus.deferred r.replyDid = some x) :
    observeReply r s =
      { s with bus := { s.bus with deferred := dropDeferred s.bus.deferred r.replyDid,
                                   ioq := s.bus.ioq ++ [replyTxn x] } } := by
  simp only [observeReply, found]

theorem observeReply_of_no_match {r : Request} {s : State} (no_match : findDeferred s.bus.deferred r.replyDid = none) :
    observeReply r s = s.append .deferredReply r false 0 := by
  simp only [observeReply, no_match]

/-- Settles O33: the deferred phase takes up `deferredTxn` of the entry found, the Deferred Reply `replyTxn` of it, and both
drop that entry. -/
theorem deferredCompletion : Obligations.DeferredCompletion := by
  refine ⟨fun s q no_latch => deferredPhase_of_ignored (matchDeferred_of_no_latch no_latch),
    fun s q ida latch => ⟨fun x found dps => ?phase, fun unusable => ?ignored⟩,
    fun s r low well_formed => ⟨fun x found => ?reply, fun no_match => ?unmatched⟩⟩
  case phase =>
    obtain ⟨pre, post, table, dropped, before⟩ := exists_append_of_findDeferred found
    refine ⟨_, deferredTxn x (q.id.getLsbD 2) q.bilLine, rfl, ?_⟩
    rw [deferredPhase, matchDeferred_of_found latch found dps]
    exact ⟨rfl, rfl, rfl, rfl, rfl, rfl, rfl, rfl, rfl, isBil_of_deferredTxn_bilLine,
      ⟨pre, post, table, dropped, before⟩, rfl⟩
  case ignored => exact deferredPhase_of_ignored (matchDeferred_of_unusable latch unusable)
  case reply =>
    obtain ⟨pre, post, table, dropped, before⟩ := exists_append_of_findDeferred found
    refine ⟨_, replyTxn x, exec_deferredReply well_formed low, ?_⟩
    rw [observeReply_of_found found]
    exact ⟨rfl, rfl, rfl, rfl, rfl, rfl, rfl, rfl, ⟨pre, post, table, dropped, before⟩,
      fun distinct => findDeferred_dropDeferred_self distinct _,
      fun d other => findDeferred_dropDeferred_of_ne _ other, rfl⟩
  case unmatched =>
    refine ⟨_, exec_deferredReply well_formed low, ?_⟩
    rw [observeReply_of_no_match no_match]
    exact ⟨rfl, .of_append rfl rfl⟩

end Sys2Proof.Machine
end

section
/-! PROOF. The event the core takes first (R604, R703, R705, R706, R707, R711, R731, R733; O44). -/

namespace Sys2Proof.Machine

/-! ### What the core turns to -/

section Unmaskable
variable {s : State} {free : Byte}

theorem nextChoice_of_mca (mca : s.core.pending.mca = true) : nextChoice s free = some (.event .mca 0) := by
  simp [nextChoice, firstChoice, mca]

theorem nextChoice_of_pmi (mca : s.core.pending.mca = false) (pmi : s.core.pending.pmi = true) :
    nextChoice s free = some (.event .pmi 0) := by
  simp [nextChoice, firstChoice, mca, pmi]

theorem nextChoice_of_init (mca : s.core.pending.mca = false) (pmi : s.core.pending.pmi = false)
    (init : s.core.pending.init = true) : nextChoice s free = some (.event .init 0) := by
  simp [nextChoice, firstChoice, mca, pmi, init]

theorem nextChoice_of_nmi (mca : s.core.pending.mca = false) (pmi : s.core.pending.pmi = false)
    (init : s.core.pending.init = false) (nmi : s.core.pending.nmi = true) :
    nextChoice s free = some (.event .nmi 2) := by
  simp [nextChoice, firstChoice, mca, pmi, init, nmi]

theorem nextChoice_of_cmci (mca : s.core.pending.mca = false) (pmi : s.core.pending.pmi = false)
    (init : s.core.pending.init = false) (nmi : s.core.pending.nmi = false) (cmci : 0 < s.core.pending.cmci) :
    nextChoice s free = some (.event .cmci 0) := by
  simp [nextChoice, firstChoice, mca, pmi, init, nmi, cmci]

end Unmaskable

/-- Nothing of a higher class than INT is pending. -/
def Pending.OnlyMaskable (p : Pending) : Prop :=
  p.mca = false ∧ p.pmi = false ∧ p.init = false ∧ p.nmi = false ∧ p.cmci = 0

/-- What is left to turn to then (R711, log 19). -/
theorem nextChoice_of_onlyMaskable {s : State} (h : s.core.pending.OnlyMaskable) (free : Byte) :
    nextChoice s free = firstChoice [
      (!s.core.pending.ext.isEmpty && mayTake s.core .ext ((maxVector s.core.pending.ext).getD 0),
        .event .ext ((maxVector s.core.pending.ext).getD 0)),
      (s.core.lint0 == .int && s.bus.lint0.seen && mayTake s.core .ext 0, .intPin),
      (s.core.pending.local0 && mayTake s.core .local0 0, .event .local0 free),
      (s.core.pending.local1 && mayTake s.core .local1 0, .event .local1 free)] := by
  obtain ⟨mca, pmi, init, nmi, cmci⟩ := h
  simp [nextChoice, firstChoice, mca, pmi, init, nmi, cmci]

theorem mayTake_of_masked {c : Core} (masked : c.intMasked = true) {e : Event} (maskable : e.maskable = true) (v : Byte) :
    mayTake c e v = false := by
  simp [mayTake, masked, maskable]

theorem mayTake_outside {c : Core} (unmasked : c.intMasked = false) (outside : c.saved = []) (e : Event) (v : Byte) :
    mayTake c e v = true := by
  simp [mayTake, unmasked, outside]

/-- A vector is taken outside every handler, or in the handler of a smaller one (R711, R733). -/
theorem mayTake_ext {c : Core} {v : Byte} (unmasked : c.intMasked = false)
    (above : c.saved = [] ∨ ∃ top more, c.saved = top :: more ∧ top.event = .ext ∧ top.vector.toNat < v.toNat) :
    mayTake c .ext v = true := by
  rcases above with outside | ⟨top, more, saved, event, smaller⟩
  · exact mayTake_outside unmasked outside .ext v
  · simp [mayTake, unmasked, saved, outranks, event, smaller]

theorem nextChoice_of_masked {s : State} (masked : s.core.intMasked = true) (h : s.core.pending.OnlyMaskable)
    (free : Byte) : nextChoice s free = none := by
  rw [nextChoice_of_onlyMaskable h]
  simp [firstChoice, mayTake_of_masked masked (e := .ext) rfl, mayTake_of_masked masked (e := .local0) rfl,
    mayTake_of_masked masked (e := .local1) rfl]

/-! ### The greatest vector -/

theorem maxVector_eq_none_iff {l : List Byte} : maxVector l = none ↔ l = [] := by
  cases l with
  | nil => simp [maxVector]
  | cons v l =>
    rw [maxVector]
    split <;> simp

/-- `maxVector` is one of the vectors, and none is greater. -/
theorem maxVector_spec {l : List Byte} {m : Byte} (h : maxVector l = some m) : m ∈ l ∧ ∀ w ∈ l, w.toNat ≤ m.toNat := by
  induction l generalizing m with
  | nil => cases h
  | cons v l ih =>
    rw [maxVector] at h
    split at h
    case h_1 rest_empty =>
      obtain rfl := Option.some.inj h
      rw [maxVector_eq_none_iff.mp rest_empty]
      simp
    case h_2 w rest_max =>
      obtain ⟨member, greatest⟩ := ih rest_max
      split at h
      case isTrue not_above =>
        obtain rfl := Option.some.inj h
        exact ⟨List.mem_cons_self, List.forall_mem_cons.mpr ⟨Nat.le_refl _, fun x hx => (greatest x hx).trans not_above⟩⟩
      case isFalse above =>
        obtain rfl := Option.some.inj h
        exact ⟨List.mem_cons_of_mem v member, List.forall_mem_cons.mpr ⟨(Nat.lt_of_not_le above).le, greatest⟩⟩

theorem maxVector_of_greatest {l : List Byte} {v : Byte} (member : v ∈ l) (greatest : ∀ w ∈ l, w.toNat ≤ v.toNat) :
    maxVector l = some v := by
  cases max : maxVector l with
  | none => exact absurd (maxVector_eq_none_iff.mp max) (List.ne_nil_of_mem member)
  | some m =>
    obtain ⟨m_member, m_greatest⟩ := maxVector_spec max
    exact congrArg some (BitVec.eq_of_toNat_eq (Nat.le_antisymm (greatest m m_member) (m_greatest v member)))

theorem nextChoice_of_vector {s : State} {v : Byte} (h : s.core.pending.OnlyMaskable) (member : v ∈ s.core.pending.ext)
    (greatest : ∀ w ∈ s.core.pending.ext, w.toNat ≤ v.toNat) (may : mayTake s.core .ext v = true) (free : Byte) :
    nextChoice s free = some (.event .ext v) := by
  have not_empty : s.core.pending.ext ≠ [] := List.ne_nil_of_mem member
  rw [nextChoice_of_onlyMaskable h, maxVector_of_greatest member greatest]
  simp [firstChoice, not_empty, may]

/-- With neither a vector nor INT there are the other local interrupts, LINT0's first (R707, log 19). -/
theorem nextChoice_of_local {s : State} (h : s.core.pending.OnlyMaskable) (no_vector : s.core.pending.ext = [])
    (no_int : s.core.lint0 = .int → s.bus.lint0.seen = false) (unmasked : s.core.intMasked = false)
    (outside : s.core.saved = []) (free : Byte) :
    nextChoice s free =
      firstChoice [(s.core.pending.local0, .event .local0 free), (s.core.pending.local1, .event .local1 free)] := by
  have not_int : (s.core.lint0 == .int && s.bus.lint0.seen) = false := by
    cases int : s.core.lint0 == .int with
    | false => rfl
    | true => exact no_int (beq_iff_eq.mp int)
  rw [nextChoice_of_onlyMaskable h, no_vector, not_int]
  simp [firstChoice, mayTake_outside unmasked outside]

/-! ### The step -/

theorem takeInterrupt_of_choice {s : State} {x : Choice} (ready : s.coreReady = true)
    (choice : nextChoice s (Config.freeByte s.free) = some x) : takeInterrupt s = (takeChoice s x).drew 2 := by
  simp only [takeInterrupt, ready, choice, if_true]

theorem takeInterrupt_of_no_choice {s : State} (no_choice : nextChoice s (Config.freeByte s.free) = none) :
    takeInterrupt s = s := by
  simp only [takeInterrupt, no_choice, ite_self]

/-- The event turned to is taken, and pending no longer (R731). -/
theorem step_takes_event {s : State} {rest : List Input} {e : Event} {v : Byte} (next : s.Next .coreInterrupt rest)
    (ready : s.coreReady = true) (choice : nextChoice s (Config.freeByte s.free) = some (.event e v)) :
    step s = .next { s with core := ({ s.core with pending := s.core.pending.clear e v } : Core).take e v,
                            inputs := rest, free := s.free + 2 } := by
  rw [step_next next]
  exact congrArg Host.Outcome.next (takeInterrupt_of_choice (s := { s with inputs := rest }) ready choice)

/-- A maskable event is not the NMI, whose entry alone puts NMI in service (R705). -/
theorem Core.take_of_maskable {c : Core} {e : Event} (maskable : e.maskable = true) (unmasked : c.intMasked = false)
    (v : Byte) :
    c.take e v = { c with
      saved := { pc := c.pc, intMasked := false, event := e, vector := v } :: c.saved,
      pc := Config.handlerEntry e.number v, intMasked := true } := by
  have not_nmi : (e == .nmi) = false := by cases e <;> first | rfl | cases maskable
  rw [Core.take, not_nmi, Bool.or_false, unmasked]

theorem step_takes_maskable {s : State} {rest : List Input} {e : Event} {v : Byte} (next : s.Next .coreInterrupt rest)
    (ready : s.coreReady = true) (unmasked : s.core.intMasked = false) (maskable : e.maskable = true)
    (choice : nextChoice s (Config.freeByte s.free) = some (.event e v)) :
    step s = .next { s with
      core := { s.core with
        pc := Config.handlerEntry e.number v, intMasked := true, pending := s.core.pending.clear e v,
        saved := { pc := s.core.pc, intMasked := false, event := e, vector := v } :: s.core.saved },
      inputs := rest, free := s.free + 2 } := by
  have unmasked_cleared : ({ s.core with pending := s.core.pending.clear e v } : Core).intMasked = false := unmasked
  rw [step_takes_event next ready choice, Core.take_of_maskable maskable unmasked_cleared]

/-- Settles O44: which event the core turns to, class by class; an unmaskable one is taken by `step_takes_event`, a
maskable one by `step_takes_maskable`. -/
theorem highestEventIsTaken : Obligations.HighestEventIsTaken := by
  refine ⟨fun s rest p next ready pending x listed present => ?unmaskable,
    fun s rest next masked mca pmi init nmi cmci => ?masked,
    fun s rest p next ready pending unmasked mca pmi init nmi cmci => ?maskable⟩
  case unmaskable =>
    subst pending
    simp only [List.mem_cons, List.not_mem_nil, or_false] at listed
    rcases listed with rfl | rfl | rfl | rfl | rfl
    · exact ⟨_, step_takes_event next ready (nextChoice_of_mca present), rfl, rfl, rfl, rfl, rfl, rfl, rfl, rfl⟩
    · obtain ⟨mca, pmi⟩ := present
      exact ⟨_, step_takes_event next ready (nextChoice_of_pmi mca pmi), rfl, rfl, rfl, rfl, rfl, rfl, rfl, rfl⟩
    · obtain ⟨mca, pmi, init⟩ := present
      exact ⟨_, step_takes_event next ready (nextChoice_of_init mca pmi init), rfl, rfl, rfl, rfl, rfl, rfl, rfl, rfl⟩
    · obtain ⟨mca, pmi, init, nmi⟩ := present
      exact ⟨_, step_takes_event next ready (nextChoice_of_nmi mca pmi init nmi),
        rfl, rfl, rfl, rfl, rfl, rfl, rfl, rfl⟩
    · obtain ⟨mca, pmi, init, nmi, cmci⟩ := present
      exact ⟨_, step_takes_event next ready (nextChoice_of_cmci mca pmi init nmi cmci),
        rfl, rfl, rfl, rfl, rfl, rfl, rfl, rfl⟩
  case masked =>
    rw [step_next next]
    have no_choice := nextChoice_of_masked (s := { s with inputs := rest }) masked ⟨mca, pmi, init, nmi, cmci⟩
    exact congrArg Host.Outcome.next (takeInterrupt_of_no_choice (no_choice _))
  case maskable =>
    subst pending
    have only_maskable : s.core.pending.OnlyMaskable := ⟨mca, pmi, init, nmi, cmci⟩
    refine ⟨fun v member greatest above => ?vector, fun no_vector no_int outside => ?locals⟩
    case vector =>
      have choice := nextChoice_of_vector only_maskable member greatest (mayTake_ext unmasked above)
      exact ⟨_, step_takes_maskable next ready unmasked rfl (choice _), rfl, rfl⟩
    case locals =>
      have choice := nextChoice_of_local only_maskable no_vector no_int unmasked outside
      refine ⟨fun local0 => ?_, fun local0 local1 => ?_⟩
      · have first : nextChoice s (Config.freeByte s.free) = some (.event .local0 (Config.freeByte s.free)) := by
          simp [choice, firstChoice, local0]
        rw [← outside]
        exact ⟨_, _, step_takes_maskable next ready unmasked rfl first, rfl, rfl⟩
      · have second : nextChoice s (Config.freeByte s.free) = some (.event .local1 (Config.freeByte s.free)) := by
          simp [choice, firstChoice, local0, local1]
        rw [← outside]
        exact ⟨_, _, step_takes_maskable next ready unmasked rfl second, rfl, rfl⟩

end Sys2Proof.Machine
end

section
/-! PROOF. BINIT# sampled with observation enabled (R642, R710, D40; O51). -/

namespace Sys2Proof.Machine

/-! ### What the core's side of a clock leaves alone -/

/-- Only what the core knows of pending events, and whether it executes, may differ. -/
def OnlyEvents (c d : Core) : Prop := d = { c with run := d.run, pending := d.pending, nmiPending := d.nmiPending }

theorem OnlyEvents.refl (c : Core) : OnlyEvents c c := rfl

theorem OnlyEvents.trans {c d e : Core} (h : OnlyEvents c d) (h' : OnlyEvents d e) : OnlyEvents c e := by
  unfold OnlyEvents at *
  rw [h', h]

theorem OnlyEvents.ite {p : Prop} [Decidable p] {c d : Core} (h : OnlyEvents c d) : OnlyEvents c (if p then d else c) := by
  split
  · exact h
  · exact .refl c

theorem Core.wakeHalted_onlyEvents (c : Core) : OnlyEvents c c.wakeHalted := by
  unfold Core.wakeHalted
  split <;> rfl

theorem Core.wakeInit_onlyEvents (c : Core) : OnlyEvents c c.wakeInit := by
  unfold Core.wakeInit
  split <;> rfl

theorem Core.pmiEdge_onlyEvents (c : Core) : OnlyEvents c c.pmiEdge := c.wakeHalted_onlyEvents.trans rfl

theorem Core.initEdge_onlyEvents (c : Core) : OnlyEvents c c.initEdge := c.wakeInit_onlyEvents.trans rfl

theorem Core.nmiEdge_onlyEvents (c : Core) : OnlyEvents c c.nmiEdge := by
  unfold Core.nmiEdge
  split
  · rfl
  · exact c.wakeHalted_onlyEvents.trans rfl

theorem Core.lint1Edge_onlyEvents (c : Core) : OnlyEvents c c.lint1Edge := by
  unfold Core.lint1Edge
  split
  · rfl
  · exact c.nmiEdge_onlyEvents
  · rfl

theorem Core.lint0Edge_onlyEvents (c : Core) : OnlyEvents c c.lint0Edge := by
  unfold Core.lint0Edge
  split <;> rfl

/-- The four asynchronous pins, one after the other (R572, R702 to R707). -/
theorem asyncCore_onlyEvents (old : Bus) (lint0 lint1 init pmi : AsyncPin) (c : Core) :
    OnlyEvents c (asyncCore old lint0 lint1 init pmi c) :=
  (OnlyEvents.ite c.pmiEdge_onlyEvents).trans <| (OnlyEvents.ite (Core.initEdge_onlyEvents _)).trans <|
    (OnlyEvents.ite (Core.lint1Edge_onlyEvents _)).trans <| (OnlyEvents.ite (Core.lint0Edge_onlyEvents _)).trans <|
      OnlyEvents.ite (Core.wakeHalted_onlyEvents _)

theorem sampleBerr_onlyEvents (q : Pins) (s : State) : OnlyEvents s.core (sampleBerr q s).core := by
  unfold sampleBerr
  split <;> rfl

theorem binitClock_onlyEvents (q : Pins) (s : State) : OnlyEvents s.core (binitClock q s).core :=
  (asyncCore_onlyEvents ..).trans (sampleBerr_onlyEvents q (samplePins q s))

/-! ### The clock of a BINIT# -/

theorem binitClock_bus (q : Pins) (s : State) :
    (binitClock q s).bus =
      { (samplePins q s).bus.resetFsm with
        stalled := q.bnr, bpriSeen := q.bpri, configClocks := s.bus.configClocks - 1 } := by
  rw [binitClock]
  simp only [sampleBerr_bus]
  rfl

/-- BINIT# is wired-OR: another agent's or this processor's (R491). -/
theorem runClock_eq_binitClock {s : State} {p : Pins} (on_bus : s.onBus = true) (one_driver : contention s p = false)
    (binit : p.binit = true ∨ s.bus.out.binit = true) (observed : s.bus.poc.opts.binitObserve = true) :
    runClock p s = .next (binitClock (merged s p) s) := by
  have sampled : (merged s p).binit = true := Bool.or_eq_true_iff.mpr binit
  simp [runClock, on_bus, one_driver, sampled, observed]

/-- Settles O51: the bus agent is `Bus.resetFsm`, and of the core only pending events may have changed. -/
theorem busInitialisation : Obligations.BusInitialisation := by
  intro s p rest next on_bus one_driver binit observed
  have clock := runClock_eq_binitClock (s := { s with inputs := rest }) on_bus one_driver binit observed
  refine ⟨_, (step_next next).trans clock, ?_⟩
  rw [binitClock_bus, binitClock_onlyEvents, binitClock_thermal, binitClock_platform, binitClock_mem]
  exact ⟨rfl, rfl, rfl, rfl, rfl, rfl, rfl, rfl, rfl, rfl, rfl, rfl, rfl, rfl, rfl, rfl, rfl, rfl, rfl, rfl, rfl, rfl, rfl,
    rfl, rfl, rfl, rfl, rfl, rfl,
    ⟨binitClock_pirom _ _, binitClock_scratch _ _, binitClock_sensor _ _⟩⟩

end Sys2Proof.Machine
end

section
/-! PROOF. The response phase, the data phase and the head of the queue (R106, R119, R515, R519, R555, R600, R608 to R611, R623 to
R625; O55). -/

namespace Sys2Proof

/-! ### Words of a line -/

/-- A bit of the line after a word has been put into it. -/
theorem getLsbD_putWord (d : LineData) (j : Nat) (w : DataWord) {m : Nat} (within : m < 1024) :
    (putWord d j w).getLsbD m =
      if 128 * j ≤ m ∧ m < 128 * j + 128 then w.getLsbD (m - 128 * j) else d.getLsbD m := by
  have offset : m - 128 * j < 1024 := by omega
  simp only [putWord, BitVec.getLsbD_or, BitVec.getLsbD_and, BitVec.getLsbD_not, BitVec.getLsbD_shiftLeft,
    BitVec.getLsbD_setWidth, BitVec.getLsbD_allOnes, within, offset]
  by_cases below : m < 128 * j
  · simp [below]
  · by_cases inside : m - 128 * j < 128
    · have lower : 128 * j ≤ m := Nat.le_of_not_lt below
      have upper : m < 128 * j + 128 := by omega
      simp [below, inside, lower, upper]
    · have above : ¬ m < 128 * j + 128 := by omega
      have beyond : w.getLsbD (m - 128 * j) = false := w.getLsbD_of_ge _ (Nat.le_of_not_lt inside)
      simp [below, inside, above, beyond]

theorem dataWord_putWord_self (d : LineData) (w : DataWord) {j : Nat} (h : j < 8) : dataWord (putWord d j w) j = w := by
  apply BitVec.eq_of_getLsbD_eq
  intro i hi
  have within : 128 * j + i < 1024 := by omega
  have inside : 128 * j ≤ 128 * j + i ∧ 128 * j + i < 128 * j + 128 := by omega
  rw [dataWord, BitVec.getLsbD_extractLsb', getLsbD_putWord d j w within, if_pos inside]
  simp [hi]

theorem dataWord_putWord_of_ne (d : LineData) (w : DataWord) {j k : Nat} (h : k < 8) (other : k ≠ j) :
    dataWord (putWord d j w) k = dataWord d k := by
  apply BitVec.eq_of_getLsbD_eq
  intro i hi
  have within : 128 * k + i < 1024 := by omega
  have outside : ¬ (128 * j ≤ 128 * k + i ∧ 128 * k + i < 128 * j + 128) := by omega
  simp only [dataWord, BitVec.getLsbD_extractLsb', getLsbD_putWord d j w within, if_neg outside]

/-- The line after the words of one clock with DRDY# have been put into it from word `j` on: the second where two words move
(R625). -/
def putBurst (d : LineData) (j burst : Nat) (p : DataWord × DataWord) : LineData :=
  if burst = 2 then putWord (putWord d j p.1) (j + 1) p.2 else putWord d j p.1

theorem dataWord_putBurst_first (d : LineData) (burst : Nat) (p : DataWord × DataWord) {j : Nat} (h : j < 8) :
    dataWord (putBurst d j burst p) j = p.1 := by
  unfold putBurst
  split
  · rw [dataWord_putWord_of_ne _ _ h (Nat.ne_of_lt j.lt_succ_self), dataWord_putWord_self d p.1 h]
  · exact dataWord_putWord_self d p.1 h

theorem dataWord_putBurst_second (d : LineData) (p : DataWord × DataWord) {j : Nat} (h : j + 1 < 8) :
    dataWord (putBurst d j 2 p) (j + 1) = p.2 := dataWord_putWord_self _ p.2 h

theorem dataWord_putBurst_of_ne (d : LineData) (burst : Nat) (p : DataWord × DataWord) {j k : Nat} (h : k < 8)
    (not_first : k ≠ j) (not_second : k ≠ j + 1) : dataWord (putBurst d j burst p) k = dataWord d k := by
  unfold putBurst
  split
  · rw [dataWord_putWord_of_ne _ _ h not_second, dataWord_putWord_of_ne _ _ h not_first]
  · exact dataWord_putWord_of_ne d p.1 h not_first

end Sys2Proof

namespace Sys2Proof.Machine

/-! ### The response phase -/

/-- A response is for the oldest transaction that has its snoop result and no response (R600, R624). -/
theorem responsePhase_of_oldest {s : State} {q : Pins} {k : RespKind} {pre post : List Txn} {x : Txn}
    (queue : s.bus.ioq = pre ++ x :: post) (before : ∀ y ∈ pre, y.snoop = none ∨ y.response.isSome = true)
    (snooped : x.snoop.isSome = true) (unanswered : x.response = none) (code : responseKind q.rs = some k)
    (no_trdy : q.trdy = false) :
    responsePhase q s = { s with bus := { s.bus with ioq := pre ++ x.answeredAs q k :: post } } := by
  have not_before (y : Txn) (hy : y ∈ pre) : (y.snoop.isSome && y.response.isNone) = false := by
    rcases before y hy with no_snoop | answered
    · simp [no_snoop]
    · simp [answered]
  have waits : (x.snoop.isSome && x.response.isNone) = true := by simp [snooped, unanswered]
  have answered := updateFirst_append_cons (p := fun t : Txn => t.snoop.isSome && t.response.isNone)
    not_before waits (Txn.answeredAs q k) post
  simp only [responsePhase, code, no_trdy, queue, answered, Bool.false_eq_true, if_false]

/-! ### A clock of the data phase -/

section Moving
variable {s : State} {q : Pins} {t : Txn} {o : PinsOut}

/-- Data is still to move: the response lets it, and words are missing. -/
def Txn.Moving (t : Txn) : Prop := t.dataPhase = true ∧ t.got < t.totalWords

theorem Txn.Moving.not_stopped (h : t.Moving) : (!t.dataPhase || t.dataDone) = false := by
  obtain ⟨flows, missing⟩ := h
  simp [flows, Txn.dataDone, missing]

/-- The driver of the data waits for TRDY# (R625). -/
theorem dataStep_of_no_trdy (moving : t.Moving) (drives : t.weDrive = true) (no_trdy : t.trdy = false) :
    dataStep s q t o = (t, o) := by
  simp [dataStep, moving.not_stopped, drives, no_trdy]

/-- It does not begin while another agent holds the data or the strobe bus (R519, R555). -/
theorem dataStep_of_busy (moving : t.Moving) (drives : t.weDrive = true) (not_begun : t.lead = false)
    (busy : q.dbsy = true ∨ q.sbsy = true) : dataStep s q t o = (t, o) := by
  have busses : (q.dbsy || q.sbsy) = true := Bool.or_eq_true_iff.mpr busy
  simp [dataStep, moving.not_stopped, drives, not_begun, busses]

theorem dataStep_begins (moving : t.Moving) (drives : t.weDrive = true) (trdy : t.trdy = true)
    (not_begun : t.lead = false) (dbsy : q.dbsy = false) (sbsy : q.sbsy = false) :
    dataStep s q t o = ({ t with lead := true }, { o with dbsy := true, sbsy := true }) := by
  simp [dataStep, moving.not_stopped, drives, trdy, not_begun, dbsy, sbsy, Txn.driven, drivePins, holdPins]

theorem dataStep_drives (moving : t.Moving) (drives : t.weDrive = true) (trdy : t.trdy = true) (begun : t.lead = true)
    (no_idle : q.holdData = false) :
    dataStep s q t o =
      ({ t with got := t.got + t.burst },
       { o with dbsy := true, drdy := true, sbsy := decide (t.got + t.burst < t.runEnd), d0 := t.word t.got,
                d1 := if t.burst = 2 then t.word (t.got + 1) else 0 }) := by
  simp [dataStep, moving.not_stopped, drives, trdy, begun, no_idle, Txn.driven, drivePins]

/-- DRDY# of another agent delivers the words on the pins (R625). -/
theorem dataStep_receives {d : DataWord × DataWord} (moving : t.Moving) (not_driving : t.weDrive = false)
    (drdy : q.drdy = true) (words : q.d = some d) :
    dataStep s q t o = (t.receive d, { o with berr := o.berr || eccError s.bus q t }) := by
  simp [dataStep, moving.not_stopped, not_driving, drdy, incoming, words]

end Moving

/-! ### The transaction's own words -/

/-- The data of a transaction has one direction (R625). -/
theorem BusRow.isWrite_of_isRead {r : BusRow} (read : r.isRead = true) : r.isWrite = false := by
  cases r <;> first | rfl | cases read

section OwnWords
variable {t : Txn}

theorem Txn.wbWords_of_no_line (no_line : t.hitm = false) : t.wbWords = 0 := by simp [Txn.wbWords, no_line]

theorem Txn.totalWords_of_write (no_line : t.hitm = false) (write : t.row.isWrite = true) :
    t.totalWords = xferWords t.len := by
  simp [Txn.totalWords, Txn.wbWords_of_no_line no_line, write]

/-- A read has no data but that of its length, or a line for a Bus Invalidate Line (R106, R608). -/
theorem Txn.totalWords_of_read (no_line : t.hitm = false) (read : t.row.isRead = true) :
    t.totalWords = if t.bilLine then 8 else xferWords t.len := by
  simp [Txn.totalWords, Txn.wbWords_of_no_line no_line, BusRow.isWrite_of_isRead read, no_line, Txn.dataless, read]

theorem Txn.weDrive_of_no_line (no_line : t.hitm = false) : t.weDrive = (t.row.isWrite && t.src.isSome) := by
  simp [Txn.weDrive, Txn.wbWords_of_no_line no_line]

theorem Txn.runEnd_of_no_line (no_line : t.hitm = false) : t.runEnd = t.totalWords := by
  simp [Txn.runEnd, Txn.wbWords_of_no_line no_line]

theorem Txn.word_of_no_line (no_line : t.hitm = false) (k : Nat) : t.word k = dataWord t.buf k := by
  simp [Txn.word, Txn.wbWords_of_no_line no_line]

theorem Txn.burst_of_no_line (no_line : t.hitm = false) :
    t.burst = if t.totalWords - t.got = 1 then 1 else 2 := by
  simp [Txn.burst, Txn.wbWords_of_no_line no_line]

/-- Two words a clock, one where there are no more (R625). -/
theorem Txn.got_add_burst_of_no_line (no_line : t.hitm = false) (missing : t.got < t.totalWords) :
    t.got + t.burst = min t.totalWords (t.got + 2) := by
  rw [Txn.burst_of_no_line no_line]
  split <;> omega

theorem Txn.burst_eq_two_of_no_line (no_line : t.hitm = false) (two_left : t.got + 2 ≤ t.totalWords) : t.burst = 2 := by
  rw [Txn.burst_of_no_line no_line]
  split <;> omega

theorem Txn.putWord_of_no_line (no_line : t.hitm = false) (k : Nat) (w : DataWord) :
    t.putWord k w = { t with buf := Sys2Proof.putWord t.buf k w } := by
  simp [Txn.putWord, Txn.wbWords_of_no_line no_line]

theorem Txn.receive_of_no_line (no_line : t.hitm = false) (d : DataWord × DataWord) :
    t.receive d = { t with got := t.got + t.burst, buf := putBurst t.buf t.got t.burst d } := by
  have still_no_line (k : Nat) (w : DataWord) : (t.putWord k w).hitm = false := by
    rw [Txn.putWord_of_no_line no_line]
    exact no_line
  unfold Txn.receive putBurst
  dsimp only
  split
  · rw [Txn.putWord_of_no_line (still_no_line _ _), Txn.putWord_of_no_line no_line]
  · rw [Txn.putWord_of_no_line no_line]

end OwnWords

/-! ### The line of an implicit writeback -/

section Line
variable {t : Txn}

theorem Txn.wbWords_of_line (line : t.hitm = true) : t.wbWords = 8 := by simp [Txn.wbWords, line]

theorem Txn.le_totalWords_of_line (line : t.hitm = true) : 8 ≤ t.totalWords := by
  rw [Txn.totalWords, Txn.wbWords_of_line line]
  exact Nat.le_add_right ..

theorem Txn.weDrive_of_line (line : t.hitm = true) (missing : t.got < 8) : t.weDrive = t.supplies := by
  simp [Txn.weDrive, Txn.wbWords_of_line line, missing]

theorem Txn.runEnd_of_line (line : t.hitm = true) (missing : t.got < 8) : t.runEnd = 8 := by
  simp [Txn.runEnd, Txn.wbWords_of_line line, missing]

theorem Txn.burst_of_line (line : t.hitm = true) (missing : t.got < 8) : t.burst = 2 := by
  simp [Txn.burst, Txn.wbWords_of_line line, missing]

theorem Txn.word_of_line (line : t.hitm = true) {k : Nat} (h : k < 8) : t.word k = dataWord t.wbuf k := by
  simp [Txn.word, Txn.wbWords_of_line line, h]

theorem Txn.putWord_of_line (line : t.hitm = true) {k : Nat} (h : k < 8) (w : DataWord) :
    t.putWord k w = { t with wbuf := Sys2Proof.putWord t.wbuf k w } := by
  simp [Txn.putWord, Txn.wbWords_of_line line, h]

theorem Txn.receive_of_line (line : t.hitm = true) (two_left : t.got + 1 < 8) (d : DataWord × DataWord) :
    t.receive d = { t with got := t.got + 2, wbuf := putBurst t.wbuf t.got 2 d } := by
  have still_line (k : Nat) (w : DataWord) : (t.putWord k w).hitm = true := by
    rw [Txn.putWord]
    split <;> exact line
  have missing : t.got < 8 := Nat.lt_of_succ_lt two_left
  unfold Txn.receive putBurst
  dsimp only
  rw [Txn.burst_of_line line missing, if_pos rfl, if_pos rfl, Txn.putWord_of_line (still_line _ _) two_left,
    Txn.putWord_of_line line missing]

end Line

/-! ### The head of the queue -/

section Head
variable {s : State} {x : Txn} {rest : List Txn}

theorem retire_of_no_response (head : s.bus.ioq = x :: rest) (response : x.response = none) : retire s = s := by
  simp only [retire, head, response]

theorem retire_of_missing (head : s.bus.ioq = x :: rest) (response : x.response = some .normal)
    (missing : x.got < x.totalWords) : retire s = s := by
  simp [retire, head, response, Txn.dataDone, missing]

theorem retire_of_moved (head : s.bus.ioq = x :: rest) (response : x.response = some .normal)
    (moved : x.totalWords ≤ x.got) :
    retire s = completeTxn x true { s with bus := { s.bus with ioq := rest } } := by
  simp [retire, head, response, Txn.dataDone, moved]

theorem retire_of_retry {w : OutReq} (head : s.bus.ioq = x :: rest) (own : x.src = some w)
    (response : x.response = some .retry) :
    retire s = { s with bus := { s.bus with ioq := rest, outQ := w :: s.bus.outQ } } := by
  simp only [retire, head, response, requeue, own]

theorem retire_of_deferred (head : s.bus.ioq = x :: rest) (response : x.response = some .deferred) :
    retire s = { s with bus := { s.bus with ioq := rest, deferred := s.bus.deferred ++ [(x.req.b.did, x)] } } := by
  simp only [retire, head, response]

/-- Another agent's completed transaction reaches the caches and nothing else of the core. -/
theorem retire_core_of_other (head : s.bus.ioq = x :: rest) (response : x.response = some .normal)
    (moved : x.totalWords ≤ x.got) (other : x.src = none) :
    (retire s).core = { s.core with cache := cacheAfterOther x (Config.freeBool s.free) s.core.cache } := by
  simp only [retire_of_moved head response moved, completeTxn, other, if_true]

theorem retire_core_of_own {w : OutReq} (head : s.bus.ioq = x :: rest) (response : x.response = some .normal)
    (moved : x.totalWords ≤ x.got) (own : x.src = some w) :
    (retire s).core = coreAfterOwn x w x.readData { s.core with cache := cacheAfterOwn x s.core.cache } := by
  simp only [retire_of_moved head response moved, completeTxn, own, if_true]

end Head

/-! ### The caches after a completed transaction -/

section Caches
variable {x : Txn} {cs : List CacheLine}

theorem findLine_cacheAfterOther_of_ne {l : LineAddr} (elsewhere : l ≠ lineOf x.req.addr) (keep : Bool) :
    findLine (cacheAfterOther x keep cs) l = findLine cs l := by
  unfold cacheAfterOther
  (repeat' split) <;> simp [findLine_dropLine, findLine_cleanLine, elsewhere]

theorem findLine_cacheAfterOwn_of_ne {l : LineAddr} (elsewhere : l ≠ lineOf x.req.addr) :
    findLine (cacheAfterOwn x cs) l = findLine cs l := by
  unfold cacheAfterOwn
  split <;> simp [findLine_cleanLine, elsewhere]

/-- A row that takes the line away (R608, R611, R661). -/
theorem findLine_cacheAfterOther_taken (snooped : x.snooped = true)
    (takes : x.row = .memReadInvalidate ∨ x.row = .memWrite ∨ x.req.b.fcl = true) (keep : Bool) :
    findLine (cacheAfterOther x keep cs) (lineOf x.req.addr) = none := by
  have not_kept : x.keepsLine = false := by rcases takes with h | h | h <;> simp [Txn.keepsLine, h]
  simp [cacheAfterOther, snooped, not_kept, findLine_dropLine]

theorem Txn.keepsLine_of_read (row : x.row = .memRead ∨ x.row = .memReadCurrent ∨ x.row = .cacheLineReplacement)
    (not_flush : x.req.b.fcl = false) : x.keepsLine = true := by
  rcases row with row | row | row <;> simp [Txn.keepsLine, row, not_flush]

/-- A line held modified and supplied to a reader is clean or gone (R609, log 17). -/
theorem findLine_cacheAfterOther_supplied (row : x.row = .memRead) (not_flush : x.req.b.fcl = false)
    (supplies : x.supplies = true) (keep : Bool) :
    findLine (cacheAfterOther x keep cs) (lineOf x.req.addr) = none ∨
      findLine (cacheAfterOther x keep cs) (lineOf x.req.addr) =
        (findLine cs (lineOf x.req.addr)).map fun c => { c with modified := false } := by
  have snooped : x.snooped = true := by simp [Txn.snooped, row]
  have kept := Txn.keepsLine_of_read (.inl row) not_flush
  cases keep
  · exact .inl (by simp [cacheAfterOther, snooped, kept, row, supplies, findLine_dropLine])
  · exact .inr (by simp [cacheAfterOther, snooped, kept, row, supplies, findLine_cleanLine])

/-- What is not snooped, a Memory Read Current, a Cache Line Replacement and a read of a line not supplied change no cache
(R610, R612). -/
theorem cacheAfterOther_unchanged
    (unchanged : x.snooped = false ∨ (x.req.b.fcl = false ∧
      (x.row = .memReadCurrent ∨ x.row = .cacheLineReplacement ∨ (x.row = .memRead ∧ x.supplies = false))))
    (keep : Bool) : cacheAfterOther x keep cs = cs := by
  rcases unchanged with not_snooped | ⟨not_flush, row⟩
  · simp [cacheAfterOther, not_snooped]
  · rcases row with row | row | ⟨row, not_supplied⟩
    · simp [cacheAfterOther, Txn.keepsLine_of_read (.inr (.inl row)) not_flush, row]
    · simp [cacheAfterOther, Txn.keepsLine_of_read (.inr (.inr row)) not_flush, row]
    · simp [cacheAfterOther, Txn.keepsLine_of_read (.inl row) not_flush, not_supplied]

/-- A cache cleanse does not invalidate the line (R515, R611). -/
theorem findLine_cacheAfterOwn_cleansed (row : x.row = .memWrite) (cleanse : x.req.b.exf2 = true) :
    findLine (cacheAfterOwn x cs) (lineOf x.req.addr) =
      (findLine cs (lineOf x.req.addr)).map fun c => { c with modified := false } := by
  simp [cacheAfterOwn, row, cleanse, findLine_cleanLine]

theorem cacheAfterOwn_unchanged (no_cleanse : x.row ≠ .memWrite ∨ x.req.b.exf2 = false) : cacheAfterOwn x cs = cs := by
  rcases no_cleanse with row | exf2
  · simp [cacheAfterOwn, row]
  · simp [cacheAfterOwn, exf2]

end Caches

/-! ### The core after its own transaction -/

section Own
variable {x : Txn} {w : OutReq} {d : LineData} {c : Core}

theorem coreAfterOwn_cache : (coreAfterOwn x w d c).cache = c.cache := by
  unfold coreAfterOwn
  split
  · rfl
  · rfl
  · split <;> rfl

/-- Neither an acknowledge nor a purge: only a read's data is delivered. -/
theorem coreAfterOwn_of_access (not_intAck : w.purpose ≠ .intAck) (not_purge : w.purpose ≠ .purge) :
    coreAfterOwn x w d c = { c with
      inbox := if x.row.isRead then c.inbox ++ [completionOf x w d] else c.inbox } := by
  unfold coreAfterOwn
  split
  case h_1 intAck => exact absurd intAck not_intAck
  case h_2 purge => exact absurd purge not_purge
  case h_3 => split <;> rfl

theorem Txn.readData_of_no_line (no_line : x.hitm = false) : x.readData = x.buf := by simp [Txn.readData, no_line]

theorem laneValue_of_little {len : BitVec 3} (long : len ≠ 0) (a : AddrPins) (be : BitVec 8) :
    laneValue .little a len be d = d := if_neg long

theorem Txn.isBil_of_long (long : x.len ≠ 0) : x.isBil = false := by
  rw [Txn.isBil, beq_false_of_ne long, Bool.and_false, Bool.false_and]

/-- The bytes of a longer read are its value as they came, in the little-endian order (R104). -/
theorem completionOf_data_of_little (long : x.len ≠ 0) (little : w.endian = .little) : (completionOf x w d).data = d := by
  simp [completionOf, Txn.isBil_of_long long, little, laneValue_of_little long]

/-- The line that answers a Bus Invalidate Line is delivered as it came (R608). -/
theorem completionOf_data_of_bil (bil : x.isBil = true) (line : x.bilLine = true) : (completionOf x w d).data = d := by
  simp [completionOf, bil, line]

end Own

/-! ### The statement -/

/-- The data of an own write, clock by clock. -/
theorem dataStep_of_own_write {x : Txn} {w : OutReq} (write : x.row = .memWrite ∨ x.row = .ioWrite)
    (own : x.src = some w) (no_line : x.hitm = false) (response : x.response = some .normal)
    (missing : x.got < xferWords x.len) (s : State) (q : Pins) (o : PinsOut) :
    (x.trdy = false → dataStep s q x o = (x, o)) ∧
    (x.trdy = true → x.lead = false → (q.dbsy = true ∨ q.sbsy = true) → dataStep s q x o = (x, o)) ∧
    (x.trdy = true → x.lead = false → q.dbsy = false → q.sbsy = false →
      dataStep s q x o = ({ x with lead := true }, { o with dbsy := true, sbsy := true })) ∧
    (x.trdy = true → x.lead = true → q.holdData = false →
      ∃ y p, dataStep s q x o = (y, p) ∧ y = { x with got := y.got } ∧ y.got = min (xferWords x.len) (x.got + 2) ∧
        p.dbsy = true ∧ p.drdy = true ∧ p.sbsy = decide (y.got < xferWords x.len) ∧ p.d0 = dataWord x.buf x.got ∧
        (x.got + 2 ≤ xferWords x.len → p.d1 = dataWord x.buf (x.got + 1))) := by
  have is_write : x.row.isWrite = true := by rcases write with row | row <;> rw [row] <;> rfl
  have total := Txn.totalWords_of_write no_line is_write
  have moving : x.Moving := ⟨x.dataPhase_iff.mpr (.inl response), total ▸ missing⟩
  have drives : x.weDrive = true := by simp [Txn.weDrive_of_no_line no_line, is_write, own]
  refine ⟨dataStep_of_no_trdy moving drives, fun _ => dataStep_of_busy moving drives, dataStep_begins moving drives,
    fun trdy begun no_idle => ⟨_, _, dataStep_drives moving drives trdy begun no_idle, rfl, ?_, rfl, rfl, ?_, ?_, ?_⟩⟩
  · exact total ▸ Txn.got_add_burst_of_no_line no_line moving.2
  · rw [Txn.runEnd_of_no_line no_line, total]
  · exact Txn.word_of_no_line no_line x.got
  · intro two_left
    rw [← total] at two_left
    exact (if_pos (Txn.burst_eq_two_of_no_line no_line two_left)).trans (Txn.word_of_no_line no_line _)

/-- The data of a read as DRDY# delivers it. -/
theorem dataStep_of_read {x : Txn} {n : Nat} {q : Pins} {w0 w1 : DataWord} (read : x.row.isRead = true)
    (no_line : x.hitm = false) (response : x.response = some .normal)
    (words : n = if x.bilLine then 8 else xferWords x.len) (at_most : n ≤ 8) (missing : x.got < n) (drdy : q.drdy = true)
    (pins : q.d = some (w0, w1)) (s : State) (o : PinsOut) :
    ∃ y p, dataStep s q x o = (y, p) ∧ y = { x with got := min n (x.got + 2), buf := y.buf } ∧
      dataWord y.buf x.got = w0 ∧ (x.got + 2 ≤ n → dataWord y.buf (x.got + 1) = w1) ∧
      (∀ j < 8, j ≠ x.got → j ≠ x.got + 1 → dataWord y.buf j = dataWord x.buf j) := by
  obtain rfl : x.totalWords = n := (Txn.totalWords_of_read no_line read).trans words.symm
  have moving : x.Moving := ⟨x.dataPhase_iff.mpr (.inl response), missing⟩
  have not_driving : x.weDrive = false := by
    simp [Txn.weDrive_of_no_line no_line, BusRow.isWrite_of_isRead read]
  have received := Txn.receive_of_no_line no_line (w0, w1)
  rw [Txn.got_add_burst_of_no_line no_line missing] at received
  refine ⟨_, _, dataStep_receives moving not_driving drdy pins, ?_⟩
  rw [received]
  refine ⟨rfl, dataWord_putBurst_first _ _ _ (by omega), fun two_left => ?_,
    fun j hj not_first not_second => dataWord_putBurst_of_ne _ _ _ hj not_first not_second⟩
  rw [Txn.burst_eq_two_of_no_line no_line two_left]
  exact dataWord_putBurst_second _ _ (by omega)

/-- The line of an implicit writeback, clock by clock: driven from the copy where this processor supplies it. -/
theorem dataStep_of_line {x : Txn} (line : x.hitm = true)
    (response : x.response = some .normal ∨ x.response = some .implicitWriteback) (two_left : x.got + 2 ≤ 8) (s : State)
    (q : Pins) (o : PinsOut) :
    (x.supplies = true →
      (x.trdy = false → dataStep s q x o = (x, o)) ∧
      (x.trdy = true → x.lead = false → (q.dbsy = true ∨ q.sbsy = true) → dataStep s q x o = (x, o)) ∧
      (x.trdy = true → x.lead = false → q.dbsy = false → q.sbsy = false →
        dataStep s q x o = ({ x with lead := true }, { o with dbsy := true, sbsy := true })) ∧
      (x.trdy = true → x.lead = true → q.holdData = false →
        ∃ p, dataStep s q x o = ({ x with got := x.got + 2 }, p) ∧ p.dbsy = true ∧ p.drdy = true ∧
          p.sbsy = decide (x.got + 2 < 8) ∧ p.d0 = dataWord x.wbuf x.got ∧ p.d1 = dataWord x.wbuf (x.got + 1))) ∧
    (∀ w0 w1, x.supplies = false → q.drdy = true → q.d = some (w0, w1) →
      ∃ y p, dataStep s q x o = (y, p) ∧ y = { x with got := x.got + 2, wbuf := y.wbuf } ∧
        dataWord y.wbuf x.got = w0 ∧ dataWord y.wbuf (x.got + 1) = w1 ∧
        ∀ j < 8, j ≠ x.got → j ≠ x.got + 1 → dataWord y.wbuf j = dataWord x.wbuf j) := by
  have missing : x.got < 8 := by omega
  have moving : x.Moving := ⟨x.dataPhase_iff.mpr response, missing.trans_le (Txn.le_totalWords_of_line line)⟩
  have drives := Txn.weDrive_of_line line missing
  have burst := Txn.burst_of_line line missing
  refine ⟨fun supplies => ?driven, fun w0 w1 not_supplied drdy pins => ?received⟩
  case driven =>
    rw [supplies] at drives
    refine ⟨dataStep_of_no_trdy moving drives, fun _ => dataStep_of_busy moving drives, dataStep_begins moving drives,
      fun trdy begun no_idle => ?_⟩
    have step := dataStep_drives (s := s) (o := o) moving drives trdy begun no_idle
    rw [burst, Txn.runEnd_of_line line missing, if_pos rfl, Txn.word_of_line line missing,
      Txn.word_of_line line (Nat.lt_of_succ_le two_left)] at step
    exact ⟨_, step, rfl, rfl, rfl, rfl, rfl⟩
  case received =>
    rw [not_supplied] at drives
    refine ⟨_, _, dataStep_receives moving drives drdy pins, ?_⟩
    rw [Txn.receive_of_line line (Nat.lt_of_succ_le two_left)]
    exact ⟨rfl, dataWord_putBurst_first _ _ _ missing, dataWord_putBurst_second _ _ (Nat.lt_of_succ_le two_left),
      fun j hj not_first not_second => dataWord_putBurst_of_ne _ _ _ hj not_first not_second⟩

section Completed
variable {s : State} {x : Txn} {rest : List Txn}

theorem retire_ioq_of_moved (head : s.bus.ioq = x :: rest) (response : x.response = some .normal)
    (moved : x.totalWords ≤ x.got) : (retire s).bus.ioq = rest := by
  rw [retire_of_moved head response moved, completeTxn]

/-- No line but the transaction's is touched. -/
theorem findLine_retire_of_ne (head : s.bus.ioq = x :: rest) (response : x.response = some .normal)
    (moved : x.totalWords ≤ x.got) {l : LineAddr} (elsewhere : l ≠ lineOf x.req.addr) :
    findLine (retire s).core.cache l = findLine s.core.cache l := by
  cases src : x.src with
  | none =>
    rw [retire_core_of_other head response moved src]
    exact findLine_cacheAfterOther_of_ne elsewhere _
  | some w =>
    rw [retire_core_of_own head response moved src, coreAfterOwn_cache]
    exact findLine_cacheAfterOwn_of_ne elsewhere

/-- What an own access leaves of the core. -/
theorem retire_own_access {w : OutReq} (head : s.bus.ioq = x :: rest) (response : x.response = some .normal)
    (moved : x.totalWords ≤ x.got) (own : x.src = some w) (not_intAck : w.purpose ≠ .intAck)
    (not_purge : w.purpose ≠ .purge) :
    (retire s).core = { s.core with
      cache := cacheAfterOwn x s.core.cache,
      inbox := if x.row.isRead then s.core.inbox ++ [completionOf x w x.readData] else s.core.inbox } := by
  rw [retire_core_of_own head response moved own, coreAfterOwn_of_access not_intAck not_purge]

end Completed

/-- Settles O55: the response by `responsePhase_of_oldest`, the data by the three kinds of transfer, the head by its response. -/
theorem responseDataAndRetirement : Obligations.ResponseDataAndRetirement := by
  refine ⟨fun s q k pre post x queue before snooped unanswered code no_trdy => ?response,
    fun s q x w n o write own no_line response words missing => ?own_write,
    fun s q x n o w0 w1 read no_line response words at_most missing drdy pins => ?read,
    fun s q x o line response two_left => dataStep_of_line line response two_left s q o,
    fun s x rest head => ⟨retire_of_no_response head, retire_of_missing head, fun response moved => ?completed,
      fun w own => retire_of_retry head own, retire_of_deferred head⟩⟩
  case response =>
    exact ⟨x.answeredAs q k, responsePhase_of_oldest queue before snooped unanswered code no_trdy, rfl⟩
  case own_write =>
    subst words
    exact dataStep_of_own_write write own no_line response missing s q o
  case read => exact dataStep_of_read read no_line response words at_most missing drdy pins s o
  case completed =>
    refine ⟨retire_ioq_of_moved head response moved, fun l => findLine_retire_of_ne head response moved,
      fun other snooped takes => ?taken, fun other row not_flush supplies => ?supplied,
      fun other unchanged => ?unchanged, fun w own not_intAck not_purge => ?own⟩
    case taken =>
      rw [retire_core_of_other head response moved other]
      exact findLine_cacheAfterOther_taken snooped takes _
    case supplied =>
      rw [retire_core_of_other head response moved other]
      exact findLine_cacheAfterOther_supplied row not_flush supplies _
    case unchanged => rw [retire_core_of_other head response moved other, cacheAfterOther_unchanged unchanged]
    case own =>
      rw [retire_own_access head response moved own not_intAck not_purge]
      refine ⟨findLine_cacheAfterOwn_cleansed, cacheAfterOwn_unchanged, fun not_read => if_neg (by simp [not_read]),
        fun read => ⟨completionOf x w x.readData, if_pos read, rfl, rfl, rfl, rfl, fun no_line long little => ?_,
          fun no_line bil line => ?_⟩, rfl⟩
      · exact (completionOf_data_of_little long little).trans (Txn.readData_of_no_line no_line)
      · exact (completionOf_data_of_bil bil line).trans (Txn.readData_of_no_line no_line)

end Sys2Proof.Machine
end

section
/-! PROOF. EOI, and the edges of INIT# and PMI# (R663, R665, R666, R702, R706, R712, R713; O39, O46). -/

namespace Sys2Proof.Machine

/-! ### EOI -/

section Eoi
variable {c : Core}

theorem Core.eoi_of_pending (in_service : c.nmiInService = true) (held : c.nmiPending = true) :
    c.eoi = { c with nmiInService := false, nmiPending := false, pending := { c.pending with nmi := true } } := by
  simp [Core.eoi, in_service, held]

theorem Core.eoi_of_none_pending (in_service : c.nmiInService = true) (none_held : c.nmiPending = false) :
    c.eoi = { c with nmiInService := false } := by
  simp [Core.eoi, in_service, none_held]

theorem Core.eoi_of_outside (outside : c.nmiInService ≠ true) : c.eoi = c := if_neg outside

end Eoi

/-- Settles O39: besides the pc, which every completed instruction moves on, EOI does to the core what `Core.eoi` does. -/
theorem endOfInterrupt : Obligations.EndOfInterrupt := by
  intro s
  refine ⟨(s.setCore s.core.eoi).stepped, rfl, .core .., rfl, ?_⟩
  rw [State.stepped_core, State.setCore_core]
  split
  case isTrue in_service =>
    split
    case isTrue held =>
      rw [Core.eoi_of_pending in_service held]
      rfl
    case isFalse none_held =>
      rw [Core.eoi_of_none_pending in_service (Bool.eq_false_iff.mpr none_held)]
      rfl
  case isFalse outside =>
    rw [Core.eoi_of_outside outside]
    rfl

/-! ### INIT# and PMI# -/

section Edges
variable {c : Core}

theorem Core.lint1Edge_of_disabled (disabled : c.lint1 = .disabled) : c.lint1Edge = c := by
  simp only [Core.lint1Edge, disabled]

theorem Core.lint0Edge_of_disabled (disabled : c.lint0 = .disabled) : c.lint0Edge = c := by
  simp only [Core.lint0Edge, disabled]

theorem Core.intLevel_of_disabled (disabled : c.lint0 = .disabled) (seen : Bool) : c.intLevel seen = c := by
  simp [Core.intLevel, disabled]

/-- What follows only from events leaves the configuration of the two pins as it is (R707). -/
theorem OnlyEvents.lint_eq {d : Core} (h : OnlyEvents c d) : d.lint0 = c.lint0 ∧ d.lint1 = c.lint1 := by
  rw [h]
  exact ⟨rfl, rfl⟩

/-- With LINT0 and LINT1 disabled the core is reached by the edges of PMI# and INIT# alone (R707). -/
theorem asyncCore_of_lint_disabled (lint0_off : c.lint0 = .disabled) (lint1_off : c.lint1 = .disabled) (old : Bus)
    (lint0 lint1 init pmi : AsyncPin) :
    asyncCore old lint0 lint1 init pmi c =
      if old.init.rose init then (if old.pmi.rose pmi then c.pmiEdge else c).initEdge
      else if old.pmi.rose pmi then c.pmiEdge else c := by
  obtain ⟨same0, same1⟩ := ((OnlyEvents.ite (p := old.pmi.rose pmi = true) c.pmiEdge_onlyEvents).trans
    (OnlyEvents.ite (p := old.init.rose init = true) (Core.initEdge_onlyEvents _))).lint_eq
  rw [lint0_off] at same0
  rw [lint1_off] at same1
  simp only [asyncCore, Core.lint1Edge_of_disabled same1, Core.lint0Edge_of_disabled same0, ite_self,
    Core.intLevel_of_disabled same0]

end Edges

/-- INIT# wakes a halted and a shut-down core (R666, R706). -/
theorem Core.initEdge_effect (c : Core) :
    c.initEdge = { c with pending := { c.pending with init := true }, run := c.initEdge.run } ∧
      ((c.run = .halted ∨ c.run = .shutdown) → c.initEdge.run = .running) ∧
      (c.run = .running ∨ c.run = .stopped → c.initEdge.run = c.run) := by
  unfold Core.initEdge Core.wakeInit
  split
  case isTrue asleep => exact ⟨rfl, fun _ => rfl, by rcases asleep with run | run <;> simp [run]⟩
  case isFalse awake => exact ⟨rfl, fun asleep => absurd asleep awake, fun _ => rfl⟩

/-- PMI# wakes a halted core, not one that is shut down (R665, R702). -/
theorem Core.pmiEdge_effect (c : Core) :
    c.pmiEdge = { c with pending := { c.pending with pmi := true }, run := c.pmiEdge.run } ∧
      (c.run = .halted → c.pmiEdge.run = .running) ∧ (c.run ≠ .halted → c.pmiEdge.run = c.run) := by
  unfold Core.pmiEdge Core.wakeHalted
  split
  case isTrue halted => exact ⟨rfl, fun _ => rfl, absurd halted⟩
  case isFalse not_halted => exact ⟨rfl, fun halted => absurd halted not_halted, fun _ => rfl⟩

theorem samplePins_core_of_lint_disabled {s : State} (lint0_off : s.core.lint0 = .disabled)
    (lint1_off : s.core.lint1 = .disabled) (q : Pins) :
    (samplePins q s).core =
      if s.bus.init.rose (samplePins q s).bus.init then
        (if s.bus.pmi.rose (samplePins q s).bus.pmi then s.core.pmiEdge else s.core).initEdge
      else if s.bus.pmi.rose (samplePins q s).bus.pmi then s.core.pmiEdge else s.core :=
  asyncCore_of_lint_disabled lint0_off lint1_off ..

/-- Settles O46: the sampled pins reach the core only through the two edges, each of which sets its event and may wake the
core. -/
theorem initAndPmiEdge : Obligations.InitAndPmiEdge := by
  rintro s t q rfl lint0_off lint1_off
  have core := samplePins_core_of_lint_disabled lint0_off lint1_off q
  refine ⟨rfl, fun init_rose no_pmi => ?init, fun no_init pmi_rose => ?pmi⟩
  case init =>
    have edge : (samplePins q s).core = s.core.initEdge := by simpa [init_rose, no_pmi] using core
    rw [edge]
    exact s.core.initEdge_effect
  case pmi =>
    have edge : (samplePins q s).core = s.core.pmiEdge := by simpa [no_init, pmi_rose] using core
    rw [edge]
    exact s.core.pmiEdge_effect

end Sys2Proof.Machine
end

section
/-! PROOF. The purge of the TLB, of this processor or another, and the wait for its end (R566, R605, R664, R771, D37; O40). -/

namespace Sys2Proof.Machine

/-! ### The entries a purge drops -/

/-- Two closed intervals are disjoint where one ends before the other begins (log 42). -/
theorem rangesOverlap_eq_false_iff (x range : PurgeRange) :
    rangesOverlap x range = false ↔
      range.last.toNat < x.first.toNat ∨ x.last.toNat < range.first.toNat := by
  simp [rangesOverlap, imp_iff_not_or]

theorem mem_purgeTlb {tlb : List PurgeRange} {range x : PurgeRange} :
    x ∈ purgeTlb tlb range ↔
      x ∈ tlb ∧ (range.last.toNat < x.first.toNat ∨ x.last.toNat < range.first.toNat) := by
  rw [purgeTlb, List.mem_filter, Bool.not_eq_true', rangesOverlap_eq_false_iff]

/-- A Purge TC with a legal memory type and DSZ = 01 keeps the rules of its row (R103, R107, R605). -/
theorem purgeTc_wf {r : Request} (attr : attrLegal r.b.attr = true) (dsz : r.dsz = 0b01) :
    (Instr.purgeTc r).wf = true := by
  simp [Instr.wf, Instr.malformed, Request.malformed, dszLegal, attr, dsz]

theorem purgeOut_instr_wf (range : PurgeRange) : (purgeOut range).instr.wf = true :=
  purgeTc_wf attr_zero_legal rfl

/-- TND# stands as long as a purge is left to carry out (R42, R664). -/
theorem tndOut_eq_true_iff (b : Bus) : tndOut b = true ↔ b.tlbPurging ≠ [] := by
  simp [tndOut]

theorem purgeDone_of_off_bus {s : State} (off_bus : s.onBus = false) : purgeDone s = s := by
  simp [purgeDone, off_bus]

theorem purgeDone_of_head {s : State} {range : PurgeRange} {others : List PurgeRange} (on_bus : s.onBus = true)
    (head : s.bus.tlbPurging = range :: others) :
    purgeDone s = { s with
      core := { s.core with tlb := purgeTlb s.core.tlb range }, bus := { s.bus with tlbPurging := others } } := by
  simp [purgeDone, on_bus, head]

/-! ### The core that waits for its purge -/

/-- The core waits for its purge: for the transaction, or for TND# after it (R664). -/
def Core.AwaitsPurge (c : Core) : Prop := c.wait = .purgeBus ∨ c.wait = .purgeTnd

/-- The core waits for its purge, or has lost it with everything else it was about: it does not execute either way. -/
def Core.HeldByPurge (c : Core) : Prop := c.AwaitsPurge ∨ c.run = .stopped

theorem Core.AwaitsPurge.of_wait_eq {c d : Core} (h : c.AwaitsPurge) (same : d.wait = c.wait) : d.AwaitsPurge := by
  rwa [Core.AwaitsPurge, same]

theorem coreReady_eq_false_of_awaitsPurge {s : State} (h : s.core.AwaitsPurge) : s.coreReady = false := by
  rcases h with wait | wait <;> simp [State.coreReady, wait]

theorem coreReady_eq_false_of_heldByPurge {s : State} (h : s.core.HeldByPurge) : s.coreReady = false := by
  rcases h with waits | stopped
  · exact coreReady_eq_false_of_awaitsPurge waits
  · exact coreReady_eq_false_of_run_ne (by simp [stopped])

theorem OnlyEvents.wait_eq {c d : Core} (h : OnlyEvents c d) : d.wait = c.wait := by
  rw [h]

theorem samplePins_wait (q : Pins) (s : State) : (samplePins q s).core.wait = s.core.wait :=
  (asyncCore_onlyEvents ..).wait_eq

/-! ### TND# -/

theorem sampleTnd_of_ended {q : Pins} {s : State} (waits : s.core.wait = .purgeTnd) (released : q.tnd = false) :
    sampleTnd q s = { s with core := { s.core with wait := .none } } := if_pos ⟨waits, released⟩

theorem sampleTnd_of_not_ended {q : Pins} {s : State} (h : s.core.wait ≠ .purgeTnd ∨ q.tnd = true) :
    sampleTnd q s = s := by
  refine if_neg fun ⟨waits, released⟩ => ?_
  rcases h with other | held
  · exact other waits
  · simp [held] at released

/-! ### The own transactions that complete in a clock -/

/-- The transaction is not an interrupt acknowledge of this processor (R704). -/
def Txn.NoAck (x : Txn) : Prop := ∀ q, x.src = some q → q.purpose ≠ .intAck

theorem Txn.NoAck.of_src_eq {x y : Txn} (h : x.NoAck) (same : y.src = x.src) : y.NoAck :=
  fun q own => h q (same ▸ own)

/-- No transaction of the in-order queue is an interrupt acknowledge of this processor. -/
def Bus.NoAckQueued (b : Bus) : Prop := ∀ x ∈ b.ioq, x.NoAck

/-- No own interrupt acknowledge is in the queue or among the deferred transactions. -/
def Bus.NoAck (b : Bus) : Prop := ∀ x ∈ b.ioq ++ b.deferred.map (·.2), x.NoAck

theorem forall_mem_updateFirst {α : Type} {P : α → Prop} {p : α → Bool} {f : α → α} (keeps : ∀ x, P x → P (f x))
    {l : List α} (h : ∀ x ∈ l, P x) : ∀ x ∈ updateFirst p f l, P x := by
  induction l with
  | nil => exact h
  | cons y l ih =>
    obtain ⟨first, rest⟩ := List.forall_mem_cons.mp h
    rw [updateFirst]
    split
    · exact List.forall_mem_cons.mpr ⟨keeps y first, rest⟩
    · exact List.forall_mem_cons.mpr ⟨first, ih rest⟩

/-- TRDY# marks a transaction and says nothing of whose it is. -/
theorem forall_mem_takeTrdy {l : List Txn} (h : ∀ x ∈ l, x.NoAck) : ∀ x ∈ takeTrdy l, x.NoAck := by
  induction l with
  | nil => exact h
  | cons y l ih =>
    obtain ⟨first, rest⟩ := List.forall_mem_cons.mp h
    rw [takeTrdy]
    split
    · exact List.forall_mem_cons.mpr ⟨first.of_src_eq rfl, rest⟩
    · split
      · exact List.forall_mem_cons.mpr ⟨first, ih rest⟩
      · exact h

theorem snoopPhase_noAckQueued (q : Pins) {s : State} (h : s.bus.NoAckQueued) : (snoopPhase q s).bus.NoAckQueued := by
  unfold snoopPhase
  split
  · exact forall_mem_updateFirst (fun x noAck => noAck.of_src_eq rfl) h
  · exact h

theorem responsePhase_noAckQueued (q : Pins) {s : State} (h : s.bus.NoAckQueued) :
    (responsePhase q s).bus.NoAckQueued := by
  have trdy_taken (l : List Txn) (noAck : ∀ x ∈ l, x.NoAck) : ∀ x ∈ (if q.trdy then takeTrdy l else l), x.NoAck := by
    split
    · exact forall_mem_takeTrdy noAck
    · exact noAck
  refine trdy_taken _ ?_
  split
  · exact h
  · exact forall_mem_updateFirst (fun x noAck => noAck.of_src_eq rfl) h

theorem Txn.putWord_src (x : Txn) (k : Nat) (w : DataWord) : (x.putWord k w).src = x.src := by
  unfold Txn.putWord
  split <;> rfl

theorem Txn.receive_src (x : Txn) (d : DataWord × DataWord) : (x.receive d).src = x.src := by
  simp only [Txn.receive]
  split <;> simp only [Txn.putWord_src]

theorem Txn.driven_src (x : Txn) : x.driven.src = x.src := by
  unfold Txn.driven
  split <;> rfl

/-- A clock of data moves words, not the transaction's origin. -/
theorem dataStep_src (s : State) (q : Pins) (x : Txn) (o : PinsOut) : (dataStep s q x o).1.src = x.src := by
  unfold dataStep
  repeat' split
  case isFalse.isTrue.isFalse.isFalse => exact x.driven_src
  case isFalse.isFalse.isTrue => exact x.receive_src _
  all_goals rfl

theorem dataPhase_noAckQueued (q : Pins) {s : State} (h : s.bus.NoAckQueued) : (dataPhase q s).bus.NoAckQueued := by
  unfold dataPhase
  split
  case h_1 => exact h
  case h_2 x rest queue =>
    rw [Bus.NoAckQueued, queue] at h
    obtain ⟨first, others⟩ := List.forall_mem_cons.mp h
    exact List.forall_mem_cons.mpr ⟨first.of_src_eq (dataStep_src ..), others⟩

/-- A deferred phase puts a transaction of the table back into the queue, and nothing else (R626). -/
theorem deferredPhase_noAckQueued (q : Pins) {s : State} (queued : s.bus.NoAckQueued)
    (deferred : ∀ x ∈ s.bus.deferred.map (·.2), x.NoAck) : (deferredPhase q s).bus.NoAckQueued := by
  simp only [deferredPhase, Bus.NoAckQueued]
  rcases matchDeferred_cases q s.bus with ⟨ida, x, _, found, _, taken⟩ | ⟨_, same⟩
  · rw [taken]
    obtain ⟨pre, post, table, _⟩ := exists_append_of_findDeferred found
    have noAck : x.NoAck := deferred x (by simp [table])
    exact List.forall_mem_append.mpr ⟨queued, List.forall_mem_singleton.mpr (noAck.of_src_eq rfl)⟩
  · rw [same]
    exact queued

theorem Bus.arbitrateClock_queues (b : Bus) (br : BitVec 3) :
    (b.arbitrateClock br).ioq = b.ioq ∧ (b.arbitrateClock br).deferred = b.deferred := by
  unfold Bus.arbitrateClock Bus.arbitrate
  repeat' split
  all_goals exact ⟨rfl, rfl⟩

/-! ### The wait in a clock -/

theorem coreAfterOwn_of_purge {w : OutReq} (purge : w.purpose = .purge) (x : Txn) (d : LineData) (c : Core) :
    coreAfterOwn x w d c = { c with wait := if c.wait = .purgeBus then .purgeTnd else c.wait } := by
  simp only [coreAfterOwn, purge]

/-- Of the own requests only an interrupt acknowledge ends a wait: a purge leaves the core waiting for TND# (R664). -/
theorem coreAfterOwn_awaitsPurge {c : Core} (h : c.AwaitsPurge) {w : OutReq} (not_intAck : w.purpose ≠ .intAck) (x : Txn)
    (d : LineData) : (coreAfterOwn x w d c).AwaitsPurge := by
  by_cases purge : w.purpose = .purge
  · rw [coreAfterOwn_of_purge purge]
    rcases h with wait | wait <;> simp [Core.AwaitsPurge, wait]
  · rw [coreAfterOwn_of_access not_intAck purge]
    exact h

theorem completeTxn_awaitsPurge {s : State} (h : s.core.AwaitsPurge) {x : Txn} (noAck : x.NoAck) (ok : Bool) :
    (completeTxn x ok s).core.AwaitsPurge := by
  cases own : x.src with
  | none =>
    simp only [completeTxn, own]
    exact h
  | some w =>
    simp only [completeTxn, own]
    refine coreAfterOwn_awaitsPurge ?_ (noAck w own) _ _
    exact h

theorem retire_awaitsPurge {s : State} (h : s.core.AwaitsPurge) (noAck : s.bus.NoAckQueued) :
    (retire s).core.AwaitsPurge := by
  unfold retire
  split
  case h_1 => exact h
  case h_2 x rest queue =>
    have completed (ok : Bool) : (completeTxn x ok { s with bus := { s.bus with ioq := rest } }).core.AwaitsPurge :=
      completeTxn_awaitsPurge (s := { s with bus := { s.bus with ioq := rest } }) h
        (noAck x (queue ▸ List.mem_cons_self)) ok
    split
    case h_4 => exact completed false
    case h_5 | h_6 =>
      split
      · exact completed true
      · exact h
    all_goals exact h

/-- The phases of a clock leave the core waiting for its purge, unless TND# is sampled deasserted once the transaction has
completed (R664, D37). -/
theorem clockPrologue_awaitsPurge {p : Pins} {s : State} (h : s.core.AwaitsPurge) (noAck : s.bus.NoAck)
    (not_ended : s.core.wait ≠ .purgeTnd ∨ (merged s p).tnd = true) : (clockPrologue p s).core.AwaitsPurge := by
  obtain ⟨queued, deferred⟩ := List.forall_mem_append.mp noAck
  have wait : (sampleBerr (merged s p) (samplePins (merged s p) s)).core.wait = s.core.wait :=
    (sampleBerr_onlyEvents _ _).wait_eq.trans (samplePins_wait ..)
  obtain ⟨same_ioq, same_deferred⟩ :=
    ((samplePins (merged s p) s).bus.freshOut (parityError s (merged s p))).arbitrateClock_queues (merged s p).br
  simp only [clockPrologue, clockPhases, issueStep_core, sampleBerr_bus]
  rw [sampleTnd_of_not_ended (by simpa only [wait] using not_ended)]
  apply retire_awaitsPurge
  · simp only [dataPhase_core, responsePhase_core, snoopPhase_core, deferredPhase_core]
    exact h.of_wait_eq wait
  · refine dataPhase_noAckQueued _ (responsePhase_noAckQueued _ (snoopPhase_noAckQueued _
      (deferredPhase_noAckQueued _ ?_ ?_)))
    · intro x member
      exact queued x (same_ioq ▸ member)
    · intro x member
      exact deferred x (same_deferred ▸ member)

theorem runClock_awaitsPurge {p : Pins} {s t : State} (run : runClock p s = .next t) (h : s.core.AwaitsPurge)
    (noAck : s.bus.NoAck) (not_ended : s.core.wait ≠ .purgeTnd ∨ (merged s p).tnd = true) : t.core.AwaitsPurge := by
  have clocked := clockPrologue_awaitsPurge h noAck not_ended
  rcases runClock_cases run with rfl | rfl | ⟨c, r, w, i, request, exec⟩ | ⟨l, rfl⟩
  · exact h
  · exact h.of_wait_eq (binitClock_onlyEvents _ s).wait_eq
  · rw [(exec_request_frame request exec).state]
    exact clocked
  · exact clocked

/-! ### The wait in every other step -/

/-- The thermal monitor raises a CMCI, which ends no wait, or stops the core (R365, R708). -/
theorem thermalStep_heldByPurge (us : Nat) {s : State} (h : s.core.HeldByPurge) :
    (thermalStep us s).core.HeldByPurge := by
  rcases thermalStep_cases us s with same | trip | cmci | etm
  · rwa [same]
  · rw [trip]
    exact .inr rfl
  · rw [cmci]
    exact h
  · rw [etm]
    exact h

theorem powerStep_heldByPurge {next : PowerState} {s t : State} (run : powerStep next s = .next t)
    (h : s.core.AwaitsPurge) : t.core.HeldByPurge := by
  unfold powerStep at run
  split at run
  · cases run
  · split at run
    · cases run
    · obtain rfl := Host.Outcome.next.inj run
      refine thermalStep_heldByPurge 0 ?_
      split
      · split <;> exact .inr rfl
      · exact .inl h

theorem coreAct_heldByPurge (a : CoreAct) {s : State} (h : s.core.AwaitsPurge) : (coreAct a s).core.HeldByPurge := by
  unfold coreAct
  split
  case isFalse => exact .inl h
  case isTrue ready =>
    have not_ready := coreReady_eq_false_of_awaitsPurge h
    cases a with
    | internalError | fatalBusCondition => exact .inl h
    | _ => exact absurd (ready.symm.trans not_ready) (by decide)

theorem runInput_processor_heldByPurge {x : Input} {s t : State} (processor : x.isProcessor = true)
    (not_clock : ∀ p, x ≠ .clock p) (run : runInput x s = .next t) (h : s.core.AwaitsPurge) : t.core.HeldByPurge := by
  have not_ready := coreReady_eq_false_of_awaitsPurge h
  cases x <;> cases processor
  case clock p => exact absurd rfl (not_clock p)
  case core i =>
    simp only [runInput, runCore, not_ready] at run
    split at run <;> cases run <;> exact .inl h
  case coreAct a => cases run; exact coreAct_heldByPurge a h
  case coreInterrupt =>
    cases run
    exact .inl (by simpa [takeInterrupt, not_ready] using h)
  case purgeDone =>
    cases run
    rcases purgeDone_cases s with same | ⟨_, _, _, _, purged⟩
    · rw [same]
      exact .inl h
    · rw [purged]
      exact .inl h

/-- RESET#, a trip and the loss of power stop the core; nothing else of the platform reaches its wait (R365, R770, R812). -/
theorem runInput_platform_heldByPurge {x : Input} {s t : State} (not_processor : x.isProcessor = false)
    (not_smbus : x.isSmbus = false) (run : runInput x s = .next t) (h : s.core.AwaitsPurge) : t.core.HeldByPurge := by
  cases x <;> cases not_processor <;> cases not_smbus
  case dieTemp | thermal => cases run; exact thermalStep_heldByPurge _ (.inl h)
  case resetAssert => cases run; exact .inr rfl
  case resetRelease r =>
    rcases resetRelease_next_cases run with rfl | ⟨a, rfl⟩
    · exact .inl h
    · exact thermalStep_heldByPurge 0 (.inl h)
  case power next => exact powerStep_heldByPurge run h
  case smwp | araRival => cases run; exact .inl h
  case pwrgood | measure | overshoot | platformCheck =>
    simp only [runInput, setPwrgood, measured, overshootSeen, platformCheck] at run
    (repeat' split at run) <;> cases run
    exact .inl h

theorem runInput_heldByPurge {x : Input} {s t : State} (not_clock : ∀ p, x ≠ .clock p) (run : runInput x s = .next t)
    (h : s.core.AwaitsPurge) : t.core.HeldByPurge := by
  cases smbus : x.isSmbus with
  | true =>
    rw [(runInput_smbus smbus run).2]
    exact .inl h
  | false =>
    cases processor : x.isProcessor with
    | true => exact runInput_processor_heldByPurge processor not_clock run h
    | false => exact runInput_platform_heldByPurge processor smbus run h

/-- A core that waits for its purge is held over every step, but for a clock that ends its wait by TND# (R664, D37). -/
theorem step_heldByPurge {s t : State} (run : step s = .next t) (h : s.core.AwaitsPurge) (noAck : s.bus.NoAck) :
    t.core.HeldByPurge ∨
      s.core.wait = .purgeTnd ∧ ∃ p rest, s.Next (.clock p) rest ∧ (merged s p).tnd = false := by
  rcases step_cases run with ⟨r, _, exec⟩ | ⟨_, _, rfl⟩ | ⟨x, rest, next, event⟩
  · obtain ⟨k, rfl⟩ := exec_special_marks (decodeSpecial_encode OpenCells.default r) exec
    exact .inl (.inl h)
  · exact .inl (.inl h)
  · by_cases clock : ∃ p, x = .clock p
    · obtain ⟨p, rfl⟩ := clock
      by_cases ended : s.core.wait = .purgeTnd ∧ (merged s p).tnd = false
      · exact .inr ⟨ended.1, p, rest, next, ended.2⟩
      · have not_ended : s.core.wait ≠ .purgeTnd ∨ (merged s p).tnd = true := by simpa [imp_iff_not_or] using ended
        exact .inl (.inl (runClock_awaitsPurge (s := { s with inputs := rest }) event h noAck not_ended))
    · exact .inl (runInput_heldByPurge (s := { s with inputs := rest }) (fun p e => clock ⟨p, e⟩) event h)

/-! ### The statement -/

/-- Settles O40: the wait of the issuer by `step_heldByPurge`, the entries of either purge by `mem_purgeTlb`. -/
theorem tlbPurge : Obligations.TlbPurge := by
  refine ⟨fun s range => ?issued, fun s x q rest head row own purge response moved wait => ?completed,
    fun s q => ⟨sampleTnd_of_ended, sampleTnd_of_not_ended⟩, fun s t run waits noAck ready => ?held,
    fun s rest range others next head => ⟨fun off_bus => ?stands, fun on_bus => ?carried⟩⟩
  case issued =>
    exact ⟨_, _, purgeOut range, rfl, .issued .., rfl, fun _ => mem_purgeTlb, rfl, rfl, purgeOut_instr_wf range, rfl, rfl,
      coreReady_eq_false_of_awaitsPurge (.inl rfl)⟩
  case completed =>
    have all_moved : x.totalWords ≤ x.got := of_decide_eq_true moved
    have core : (retire s).core = { s.core with wait := .purgeTnd } := by
      rw [retire_core_of_own head response all_moved own, coreAfterOwn_of_purge purge,
        cacheAfterOwn_unchanged (.inl (by simp [row])), if_pos wait]
    exact ⟨retire_ioq_of_moved head response all_moved, core,
      coreReady_eq_false_of_awaitsPurge (.inr (by rw [core]))⟩
  case held =>
    refine (step_heldByPurge run waits noAck).resolve_left fun held => ?_
    rw [coreReady_eq_false_of_heldByPurge held] at ready
    cases ready
  case stands =>
    have unmoved := purgeDone_of_off_bus (s := { s with inputs := rest }) off_bus
    rw [step_next next, runInput, unmoved]
  case carried =>
    have done := purgeDone_of_head (s := { s with inputs := rest }) on_bus head
    rw [step_next next, runInput, done]
    exact ⟨_, rfl, tndOut_eq_true_iff _, rfl, fun _ => mem_purgeTlb⟩

end Sys2Proof.Machine
end

section
/-! PROOF. The rising edge of LINT1 as NMI (R665, R705, R707, R712; O45). -/

namespace Sys2Proof.Machine

section Nmi
variable {c : Core}

theorem Core.lint1Edge_of_nmi (nmi : c.lint1 = .nmi) : c.lint1Edge = c.nmiEdge := by
  simp only [Core.lint1Edge, nmi]

/-- Within the service routine the edge is held pending, one at most (R705, R712). -/
theorem Core.nmiEdge_of_in_service (in_service : c.nmiInService = true) :
    c.nmiEdge = { c with nmiPending := true } := if_pos in_service

/-- Outside it the edge is recognised and wakes a halted core (R665, R705). -/
theorem Core.nmiEdge_of_outside (outside : c.nmiInService = false) :
    c.nmiEdge = { c with pending := { c.pending with nmi := true }, run := c.nmiEdge.run } ∧
      (c.run = .halted → c.nmiEdge.run = .running) ∧ (c.run ≠ .halted → c.nmiEdge.run = c.run) := by
  have recognised : c.nmiEdge = { c.wakeHalted with pending := { c.pending with nmi := true } } :=
    if_neg (Bool.eq_false_iff.mp outside)
  rw [recognised, Core.wakeHalted]
  split
  case isTrue halted => exact ⟨rfl, fun _ => rfl, absurd halted⟩
  case isFalse not_halted => exact ⟨rfl, fun halted => absurd halted not_halted, fun _ => rfl⟩

end Nmi

/-- With LINT0 disabled and no edge of PMI# and INIT# the core is reached by the edge of LINT1 alone (R707). -/
theorem samplePins_core_of_lint1 {s : State} {q : Pins} (lint0_off : s.core.lint0 = .disabled)
    (no_pmi : s.bus.pmi.rose (samplePins q s).bus.pmi = false)
    (no_init : s.bus.init.rose (samplePins q s).bus.init = false) :
    (samplePins q s).core =
      if s.bus.lint1.rose (samplePins q s).bus.lint1 then s.core.lint1Edge else s.core := by
  have still_off : (if s.bus.lint1.rose (samplePins q s).bus.lint1 then s.core.lint1Edge else s.core).lint0 =
      .disabled := (OnlyEvents.ite s.core.lint1Edge_onlyEvents).lint_eq.1.trans lint0_off
  change asyncCore s.bus (samplePins q s).bus.lint0 (samplePins q s).bus.lint1 (samplePins q s).bus.init
    (samplePins q s).bus.pmi s.core = _
  simp only [asyncCore, no_pmi, no_init, Bool.false_eq_true, if_false, Core.lint0Edge_of_disabled still_off, ite_self,
    Core.intLevel_of_disabled still_off]

/-- Settles O45: the sampled pins reach the core through the edge of LINT1, which as NMI is held pending or recognised. -/
theorem nmiEdge : Obligations.NmiEdge := by
  rintro s t q rfl no_pmi no_init - lint0_off
  have core := samplePins_core_of_lint1 lint0_off no_pmi no_init
  refine ⟨fun nmi rose in_service => ?held, fun nmi rose outside => ?recognised, fun unheard => ?nothing⟩
  case held =>
    rw [core, if_pos rose, Core.lint1Edge_of_nmi nmi]
    exact Core.nmiEdge_of_in_service in_service
  case recognised =>
    rw [core, if_pos rose, Core.lint1Edge_of_nmi nmi]
    exact Core.nmiEdge_of_outside outside
  case nothing =>
    rw [core]
    rcases unheard with disabled | no_edge
    · rw [Core.lint1Edge_of_disabled disabled, ite_self]
    · rw [no_edge, if_neg Bool.false_ne_true]

end Sys2Proof.Machine
end

section
/-! PROOF. The INT pin and the vector its Interrupt Acknowledge brings (R703, R704, R731, D36; O47). -/

namespace Sys2Proof.Machine

/-! ### The request for the vector -/

/-- An Interrupt Acknowledge with a legal memory type and DSZ = 01 keeps the rules of its row (R103, R107, R602). -/
theorem interruptAcknowledge_wf {r : Request} (attr : attrLegal r.b.attr = true) (dsz : r.dsz = 0b01) :
    (Instr.interruptAcknowledge r).wf = true := by
  simp [Instr.wf, Instr.malformed, Request.malformed, dszLegal, attr, dsz]

theorem intAckOut_instr_wf (free : Nat) : (intAckOut free).instr.wf = true :=
  interruptAcknowledge_wf attr_zero_legal rfl

theorem Pending.none_onlyMaskable : Pending.none.OnlyMaskable := ⟨rfl, rfl, rfl, rfl, rfl⟩

/-- With no vector waiting, INT is what an unmasked core outside every handler turns to (R703, log 19). -/
theorem nextChoice_of_int {s : State} (h : s.core.pending.OnlyMaskable) (no_vector : s.core.pending.ext = [])
    (int : s.core.lint0 = .int) (seen : s.bus.lint0.seen = true) (unmasked : s.core.intMasked = false)
    (outside : s.core.saved = []) (free : Byte) : nextChoice s free = some .intPin := by
  rw [nextChoice_of_onlyMaskable h]
  simp [firstChoice, no_vector, int, seen, mayTake_outside unmasked outside]

theorem coreReady_eq_false_of_wait_ne {s : State} (h : s.core.wait ≠ .none) : s.coreReady = false := by
  simp [State.coreReady, h]

/-- The core that turns to INT hands over the request for its vector, and waits (R703, R704). -/
theorem step_asks_for_vector {s : State} {rest : List Input} (next : s.Next .coreInterrupt rest)
    (ready : s.coreReady = true) (choice : nextChoice s (Config.freeByte s.free) = some .intPin) :
    step s = .next { s with
      core := { s.core with wait := .intAck }, bus := s.bus.enqueue [intAckOut (s.free + 1)], inputs := rest,
      free := s.free + 2 } := by
  rw [step_next next]
  exact congrArg Host.Outcome.next (takeInterrupt_of_choice (s := { s with inputs := rest }) ready choice)

/-! ### The vector taken -/

theorem coreAfterOwn_of_intAck {w : OutReq} (intAck : w.purpose = .intAck) (x : Txn) (d : LineData) (c : Core) :
    coreAfterOwn x w d c = { c.take .ext (laneByte d 0) with wait := .none, run := .running } := by
  simp only [coreAfterOwn, intAck]

/-- The completed Interrupt Acknowledge has the core take the external interrupt of the byte on lane 0 (R704, R731). -/
theorem retire_core_of_intAck {s : State} {x : Txn} {w : OutReq} {rest : List Txn} (head : s.bus.ioq = x :: rest)
    (row : x.row = .interruptAcknowledge) (own : x.src = some w) (intAck : w.purpose = .intAck)
    (response : x.response = some .normal) (no_line : x.hitm = false) (moved : x.totalWords ≤ x.got) :
    (retire s).core = { s.core.take .ext (laneByte x.buf 0) with wait := .none, run := .running } := by
  have same_cache : cacheAfterOwn x s.core.cache = s.core.cache := cacheAfterOwn_unchanged (.inl (by simp [row]))
  rw [retire_core_of_own head response moved own, coreAfterOwn_of_intAck intAck, same_cache,
    Txn.readData_of_no_line no_line]

/-- It brings nothing to memory. -/
theorem retire_mem_of_not_write {s : State} {x : Txn} {rest : List Txn} (head : s.bus.ioq = x :: rest)
    (not_write : x.row ≠ .memWrite) (no_line : x.hitm = false) : (retire s).mem = s.mem := by
  rw [retire_mem head, memoryAfter_own _ no_line, if_neg not_write, ite_self]

/-- Settles O47: INT is what the core turns to, and the acknowledge completed is the taking of its vector. -/
theorem intAsksForItsVector : Obligations.IntAsksForItsVector := by
  refine ⟨fun s rest next ready none_pending int seen unmasked outside => ?asks,
    fun s x w rest head row own intAck response no_line data_done => ?takes⟩
  case asks =>
    have only_maskable : s.core.pending.OnlyMaskable := none_pending ▸ Pending.none_onlyMaskable
    have no_vector : s.core.pending.ext = [] := by rw [none_pending]; rfl
    have choice := nextChoice_of_int only_maskable no_vector int seen unmasked outside
    exact ⟨_, intAckOut (s.free + 1), _, step_asks_for_vector next ready (choice _), rfl, rfl,
      coreReady_eq_false_of_wait_ne (by simp), rfl, rfl, intAckOut_instr_wf _, rfl⟩
  case takes =>
    have moved : x.totalWords ≤ x.got := of_decide_eq_true data_done
    have core := retire_core_of_intAck head row own intAck response no_line moved
    have mem : (retire s).mem = s.mem := retire_mem_of_not_write head (by simp [row]) no_line
    refine ⟨_, rfl, retire_ioq_of_moved head response moved, ?_⟩
    rw [core]
    exact ⟨rfl, rfl, rfl, rfl, rfl, rfl, rfl, mem⟩

end Sys2Proof.Machine
end

section
/-! PROOF. BERR# and the machine check (R709, R710, R720, R721; O48). -/

namespace Sys2Proof.Machine

/-! ### A machine check pending, through a clock -/

theorem Core.wakeHalted_pending (c : Core) : c.wakeHalted.pending = c.pending := by
  unfold Core.wakeHalted
  split <;> rfl

theorem Core.pmiEdge_mca (c : Core) : c.pmiEdge.pending.mca = c.pending.mca := rfl

theorem Core.initEdge_mca (c : Core) : c.initEdge.pending.mca = c.pending.mca := rfl

theorem Core.nmiEdge_mca (c : Core) : c.nmiEdge.pending.mca = c.pending.mca := by
  unfold Core.nmiEdge
  split <;> rfl

theorem Core.lint1Edge_mca (c : Core) : c.lint1Edge.pending.mca = c.pending.mca := by
  unfold Core.lint1Edge
  split
  · rfl
  · exact c.nmiEdge_mca
  · rfl

theorem Core.lint0Edge_mca (c : Core) : c.lint0Edge.pending.mca = c.pending.mca := by
  unfold Core.lint0Edge
  split <;> rfl

theorem Core.intLevel_pending (c : Core) (seen : Bool) : (c.intLevel seen).pending = c.pending := by
  unfold Core.intLevel
  split
  · exact c.wakeHalted_pending
  · rfl

/-- An edge that is seen or not keeps what it keeps when it is seen. -/
theorem ite_mca {p : Prop} [Decidable p] {c d : Core} (same : d.pending.mca = c.pending.mca) :
    (if p then d else c).pending.mca = c.pending.mca := by
  split
  · exact same
  · rfl

/-- None of the four asynchronous pins is a machine check (R702 to R707). -/
theorem asyncCore_mca (old : Bus) (lint0 lint1 init pmi : AsyncPin) (c : Core) :
    (asyncCore old lint0 lint1 init pmi c).pending.mca = c.pending.mca := by
  rw [asyncCore, Core.intLevel_pending, ite_mca (Core.lint0Edge_mca _), ite_mca (Core.lint1Edge_mca _),
    ite_mca (Core.initEdge_mca _), ite_mca c.pmiEdge_mca]

/-- BERR# sampled is a machine check where sampling is enabled (R709). -/
theorem sampleBerr_mca (q : Pins) (s : State) :
    (sampleBerr q s).core.pending.mca = (s.core.pending.mca || (s.bus.poc.opts.berrSample && q.berr)) := by
  unfold sampleBerr
  split
  case isTrue sampled =>
    obtain ⟨berr, enabled⟩ := Bool.and_eq_true_iff.mp sampled
    simp [berr, enabled]
  case isFalse not_sampled =>
    rw [Bool.and_comm, Bool.eq_false_iff.mpr not_sampled, Bool.or_false]

/-- The machine check of a clock in which the pins are sampled. -/
theorem sampleBerr_samplePins_mca (q : Pins) (s : State) :
    (sampleBerr q (samplePins q s)).core.pending.mca =
      (s.core.pending.mca || (s.bus.poc.opts.berrSample && q.berr)) := by
  have same : (samplePins q s).core.pending.mca = s.core.pending.mca := asyncCore_mca ..
  rw [sampleBerr_mca, same]
  rfl

theorem sampleTnd_pending (q : Pins) (s : State) : (sampleTnd q s).core.pending = s.core.pending := by
  unfold sampleTnd
  split <;> rfl

/-- A completed request takes its vector, ends a wait or delivers data, and makes nothing pending. -/
theorem coreAfterOwn_pending (x : Txn) (w : OutReq) (d : LineData) (c : Core) :
    (coreAfterOwn x w d c).pending = c.pending := by
  unfold coreAfterOwn
  split
  · rfl
  · rfl
  · split <;> rfl

theorem completeTxn_pending (x : Txn) (ok : Bool) (s : State) :
    (completeTxn x ok s).core.pending = s.core.pending := by
  unfold completeTxn
  split
  · exact coreAfterOwn_pending ..
  · rfl

theorem retire_pending (s : State) : (retire s).core.pending = s.core.pending := by
  unfold retire
  split
  · rfl
  · split
    case h_4 => exact completeTxn_pending ..
    case h_5 | h_6 =>
      split
      · exact completeTxn_pending ..
      · rfl
    all_goals rfl

theorem clockPrologue_mca (p : Pins) (s : State) :
    (clockPrologue p s).core.pending.mca =
      (s.core.pending.mca || (s.bus.poc.opts.berrSample && (merged s p).berr)) := by
  simp only [clockPrologue, clockPhases, issueStep_core, retire_pending, dataPhase_core, responsePhase_core,
    snoopPhase_core, deferredPhase_core, sampleTnd_pending, sampleBerr_samplePins_mca]

/-- BINIT# makes no machine check of its own (R710, log 18). -/
theorem binitClock_mca (q : Pins) (s : State) :
    (binitClock q s).core.pending.mca = (s.core.pending.mca || (s.bus.poc.opts.berrSample && q.berr)) :=
  sampleBerr_samplePins_mca q s

theorem observeReply_core (r : Request) (s : State) : (observeReply r s).core = s.core := by
  unfold observeReply
  split <;> rfl

/-- Of the events pending an observed request reaches the vectors waiting alone (R604). -/
theorem exec_request_pending {c : OpenCells} {i : Instr} {r : Request} {w : BitVec 12} {s t : State}
    (request : encode c i = encodeRequest r w) (run : exec i s = .next t) :
    t.core.pending = { s.core.pending with ext := t.core.pending.ext } := by
  unfold encodeRequest at request
  cases i <;> simp only [encode, reduceCtorEq] at request
  case eeSequentialRead sel start more => cases start <;> simp at request
  case sensorReservedCommand a d form => cases form <;> simp at request
  case deferredReply => rw [(unlessMalformed_next run).2, observeReply_core]
  case interruptAcknowledge | special | interrupt | purgeTc | ioRead | ioWrite | memReadInvalidate | memRead | memWrite |
      memReadCurrent | cacheLineReplacement =>
    rw [(unlessMalformed_next run).2]
    rfl
  all_goals cases run

/-- The request phase that ends a clock makes no machine check pending. -/
theorem requestPhase_mca {q : Pins} {s t : State} (run : requestPhase q s = .next t) :
    t.core.pending.mca = s.core.pending.mca := by
  unfold requestPhase at run
  split at run
  · split at run
    case h_1 i decoded =>
      obtain ⟨r, w, request⟩ := decode_request_encode decoded
      rw [exec_request_pending request run]
    case h_2 => cases run
  · cases run
    rfl

/-- The two ways in which a clock of a processor on the bus goes on. -/
theorem runClock_cases_of_on_bus {s t : State} {p : Pins} (on_bus : s.onBus = true) (run : runClock p s = .next t) :
    t = binitClock (merged s p) s ∨ requestPhase (merged s p) (clockPrologue p s) = .next t := by
  simp only [runClock, on_bus, Bool.not_true, Bool.false_eq_true, if_false] at run
  split at run
  · cases run
  · split at run
    · exact .inl (Host.Outcome.next.inj run).symm
    · split at run
      · cases run
      · exact .inr run

theorem runClock_mca {s t : State} {p : Pins} (on_bus : s.onBus = true) (run : runClock p s = .next t) :
    t.core.pending.mca = (s.core.pending.mca || (s.bus.poc.opts.berrSample && (merged s p).berr)) := by
  rcases runClock_cases_of_on_bus on_bus run with rfl | request
  · exact binitClock_mca ..
  · rw [requestPhase_mca request, clockPrologue_mca]

/-! ### BERR# driven in a clock -/

theorem Bus.arbitrateClock_poc_out (b : Bus) (br : BitVec 3) :
    (b.arbitrateClock br).poc = b.poc ∧ (b.arbitrateClock br).out = b.out := by
  unfold Bus.arbitrateClock Bus.arbitrate
  repeat' split
  all_goals exact ⟨rfl, rfl⟩

theorem deferredPhase_poc_out (q : Pins) (s : State) :
    (deferredPhase q s).bus.poc = s.bus.poc ∧ (deferredPhase q s).bus.out = s.bus.out := by
  unfold deferredPhase
  rcases matchDeferred_cases q s.bus with ⟨_, _, _, _, _, taken⟩ | ⟨_, same⟩
  · simp only [taken, and_self]
  · simp only [same, and_self]

theorem snoopPhase_poc_out (q : Pins) (s : State) :
    (snoopPhase q s).bus.poc = s.bus.poc ∧ (snoopPhase q s).bus.out = s.bus.out := by
  unfold snoopPhase
  split <;> exact ⟨rfl, rfl⟩

theorem retire_out (s : State) : (retire s).bus.out = s.bus.out := by
  unfold retire
  repeat' split
  all_goals rfl

theorem startRequest_berr (c : OpenCells) (b : Bus) (q : OutReq) (rest : List OutReq) (tid : BitVec 5) :
    (startRequest c b q rest tid).out.berr = b.out.berr := by
  dsimp only [startRequest]
  split <;> rfl

/-- The issue of an own request drives the request pins and leaves BERR# as it is (R622). -/
theorem issueStep_berr (q : Pins) (s : State) : (issueStep q s).bus.out.berr = s.bus.out.berr := by
  rcases issueStep_cases q s with same | ⟨_, _, clock_b⟩ | ⟨_, _, _, _, _, _, _, _, clock_a⟩
  · rw [same]
  · rw [clock_b]
    rfl
  · rw [clock_a]
    exact startRequest_berr ..

/-- A word with an uncorrectable error comes in this clock, to an agent that checks for it and may drive BERR# (R709,
R721). -/
def EccErrorSeen (o : PocOptions) (q : Pins) : Prop :=
  o.eccCheck = true ∧ o.berrOnBus = true ∧ q.drdy = true ∧ ∃ i : Fin 4, q.ecc[i] = .uncorrectable

theorem eccUncorrectable_iff (q : Pins) (x : Txn) :
    eccUncorrectable q x = true ↔ q.ecc[0] = .uncorrectable ∨ q.ecc[1] = .uncorrectable ∨
      (x.burst = 2 ∧ (q.ecc[2] = .uncorrectable ∨ q.ecc[3] = .uncorrectable)) := by
  simp [eccUncorrectable, or_assoc]

theorem eccError_iff (b : Bus) (q : Pins) (x : Txn) :
    eccError b q x = true ↔
      b.poc.opts.eccCheck = true ∧ b.poc.opts.berrOnBus = true ∧ x.src.isSome = true ∧
        eccUncorrectable q x = true := by
  simp [eccError, and_assoc]

theorem eccErrorSeen_of_eccError {b : Bus} {q : Pins} {x : Txn} (drdy : q.drdy = true) (error : eccError b q x = true) :
    EccErrorSeen b.poc.opts q := by
  obtain ⟨check, may_drive, _, uncorrectable⟩ := (eccError_iff b q x).mp error
  refine ⟨check, may_drive, drdy, ?_⟩
  rcases (eccUncorrectable_iff q x).mp uncorrectable with h | h | ⟨_, h | h⟩
  · exact ⟨0, h⟩
  · exact ⟨1, h⟩
  · exact ⟨2, h⟩
  · exact ⟨3, h⟩

/-- The data phase leaves BERR# as it is, or asserts it for an error in a word that came. -/
theorem dataStep_berr_cases (s : State) (q : Pins) (x : Txn) (o : PinsOut) :
    (dataStep s q x o).2.berr = o.berr ∨
      ((dataStep s q x o).2.berr = true ∧ EccErrorSeen s.bus.poc.opts q) := by
  have driven : (drivePins x o).berr = o.berr := by
    unfold drivePins
    split <;> rfl
  unfold dataStep
  repeat' split
  case isFalse.isTrue.isFalse.isFalse => exact .inl driven
  case isFalse.isFalse.isTrue drdy =>
    cases error : eccError s.bus q x with
    | false => exact .inl (Bool.or_false _)
    | true => exact .inr ⟨Bool.or_true _, eccErrorSeen_of_eccError drdy error⟩
  all_goals exact .inl rfl

theorem dataPhase_berr_cases (q : Pins) (s : State) :
    (dataPhase q s).bus.out.berr = s.bus.out.berr ∨
      ((dataPhase q s).bus.out.berr = true ∧ EccErrorSeen s.bus.poc.opts q) := by
  unfold dataPhase
  split
  · exact .inl rfl
  · exact dataStep_berr_cases ..

/-- The state in which the data phase of a clock is run. -/
def beforeData (p : Pins) (s : State) : State :=
  let q := merged s p
  let sampled := sampleBerr q (samplePins q s)
  responsePhase q (snoopPhase q (deferredPhase q (sampleTnd q
    { sampled with bus := ((sampled.bus.freshOut (parityError s q)).arbitrateClock q.br).sampleFlags q })))

/-- Until then BERR# stands for a parity error alone (R720). -/
theorem beforeData_poc_berr (p : Pins) (s : State) :
    (beforeData p s).bus.poc = s.bus.poc ∧ (beforeData p s).bus.out.berr = parityError s (merged s p) := by
  have arbitrated (b : Bus) (berr : Bool) (q : Pins) :
      (((b.freshOut berr).arbitrateClock q.br).sampleFlags q).poc = b.poc ∧
        (((b.freshOut berr).arbitrateClock q.br).sampleFlags q).out = (b.freshOut berr).out :=
    Bus.arbitrateClock_poc_out (b.freshOut berr) q.br
  have answered (q : Pins) (s : State) :
      (responsePhase q s).bus.poc = s.bus.poc ∧ (responsePhase q s).bus.out = s.bus.out := ⟨rfl, rfl⟩
  have sampled (q : Pins) (s : State) : (samplePins q s).bus.poc = s.bus.poc := rfl
  have fresh (b : Bus) (berr : Bool) : (b.freshOut berr).out.berr = berr := rfl
  simp only [beforeData, answered, snoopPhase_poc_out, deferredPhase_poc_out, sampleTnd_bus, arbitrated, sampleBerr_bus,
    sampled, fresh, and_self]

/-- After it nothing of the clock reaches BERR#. -/
theorem clockPrologue_berr (p : Pins) (s : State) :
    (clockPrologue p s).bus.out.berr = (dataPhase (merged s p) (beforeData p s)).bus.out.berr := by
  have requested (b : Bus) (q : Pins) : (b.driveBreq q).out = b.out := rfl
  simp only [clockPrologue, clockPhases, requested, issueStep_berr, retire_out, beforeData]

/-- A clock asserts BERR# for a parity error or for an error in a word that came, and for nothing else (R709, R720,
R721). -/
theorem clockPrologue_berr_cases (p : Pins) (s : State) :
    (clockPrologue p s).bus.out.berr = parityError s (merged s p) ∨
      ((clockPrologue p s).bus.out.berr = true ∧ EccErrorSeen s.bus.poc.opts (merged s p)) := by
  obtain ⟨poc, berr⟩ := beforeData_poc_berr p s
  rw [clockPrologue_berr, ← berr, ← poc]
  exact dataPhase_berr_cases ..

theorem requestPhase_of_no_latch {s : State} (no_latch : s.bus.latchA = none) (q : Pins) :
    requestPhase q s = .next { s with
      bus := { s.bus with latchA := if q.ads then some { pins := q.a, req := q.req } else none } } := by
  simp only [requestPhase, no_latch]

/-! ### BERR# for the data of an own read -/

/-- DRDY# of another agent delivers the words and shows an error in them. -/
theorem dataStep_of_drdy {x : Txn} {q : Pins} (moving : x.Moving) (not_driving : x.weDrive = false)
    (drdy : q.drdy = true) (s : State) (o : PinsOut) :
    dataStep s q x o = (x.receive (incoming s q x), { o with berr := o.berr || eccError s.bus q x }) := by
  simp [dataStep, moving.not_stopped, not_driving, drdy]

theorem Txn.burst_eq_two_iff_of_no_line {x : Txn} (no_line : x.hitm = false) (missing : x.got < x.totalWords) :
    x.burst = 2 ↔ x.got + 2 ≤ x.totalWords := by
  rw [Txn.burst_of_no_line no_line]
  split <;> omega

/-- The word of a second transfer counts only where there is one (R721). -/
theorem eccError_iff_of_own_read {x : Txn} {w : OutReq} (own : x.src = some w) (no_line : x.hitm = false)
    (missing : x.got < x.totalWords) (b : Bus) (q : Pins) :
    eccError b q x = true ↔ b.poc.opts.eccCheck = true ∧ b.poc.opts.berrOnBus = true ∧
      (q.ecc[0] = .uncorrectable ∨ q.ecc[1] = .uncorrectable ∨
        (x.got + 2 ≤ x.totalWords ∧ (q.ecc[2] = .uncorrectable ∨ q.ecc[3] = .uncorrectable))) := by
  rw [eccError_iff, eccUncorrectable_iff, Txn.burst_eq_two_iff_of_no_line no_line missing]
  simp [own]

/-! ### The statement -/

/-- Settles O48: what is sampled by `runClock_mca`, what a clock drives by `clockPrologue_berr_cases`, the data of an own read
by `eccError_iff_of_own_read`. -/
theorem berrAndMachineCheck : Obligations.BerrAndMachineCheck := by
  refine ⟨fun s t p rest next on_bus run => ?sampled,
    fun s p rest next on_bus one_driver no_binit no_latch parity => ?driven,
    fun s q x w n o row own no_line response no_bil words missing drdy => ?own_read,
    fun s ferr rest next on_bus => ?internal⟩
  case sampled =>
    rw [step_next next] at run
    exact runClock_mca (s := { s with inputs := rest }) on_bus run
  case driven =>
    have clock := runClock_eq_requestPhase (s := { s with inputs := rest }) on_bus one_driver (.inl no_binit) parity
    have still_no_latch := (clockPrologue_latchA p { s with inputs := rest }).trans no_latch
    rw [requestPhase_of_no_latch still_no_latch] at clock
    refine ⟨_, (step_next next).trans clock, ?_⟩
    rcases clockPrologue_berr_cases p { s with inputs := rest } with same | ⟨asserted, check, may_drive, came, i, error⟩
    · exact ⟨same.trans, fun no_parity_error _ => same.trans no_parity_error⟩
    · refine ⟨fun _ => asserted, fun _ no_ecc_error => ?_⟩
      rcases no_ecc_error with no_check | may_not | none_came | no_error
      · exact absurd check (Bool.eq_false_iff.mp no_check)
      · exact absurd may_drive (Bool.eq_false_iff.mp may_not)
      · exact absurd came (Bool.eq_false_iff.mp none_came)
      · exact absurd error (no_error i)
  case own_read =>
    have read : x.row.isRead = true := by rw [row]; rfl
    obtain rfl : x.totalWords = n := by
      rw [words, Txn.totalWords_of_read no_line read, no_bil, if_neg Bool.false_ne_true, xferWords]
    have moving : x.Moving := ⟨x.dataPhase_iff.mpr (.inl response), missing⟩
    have not_driving : x.weDrive = false := by
      simp [Txn.weDrive_of_no_line no_line, BusRow.isWrite_of_isRead read]
    refine ⟨_, _, dataStep_of_drdy moving not_driving drdy s o, rfl, ?_⟩
    rw [Bool.or_eq_true_iff, eccError_iff_of_own_read own no_line missing]
  case internal =>
    have ready : CoreAct.ready (.internalError ferr) { s with inputs := rest } = true := on_bus
    have acts : coreAct (.internalError ferr) { s with inputs := rest } =
        { s with inputs := rest, bus := internalError ferr s.bus } := if_pos ready
    exact ⟨_, (step_next next).trans (congrArg Host.Outcome.next acts), rfl, rfl⟩

end Sys2Proof.Machine
end

section
/-! PROOF. RESET# sampled asserted, and what the platform must keep (R206, R210 to R212, R219, R368, R549, R770 to R774, R779, R782,
R803; O58, O60). -/

namespace Sys2Proof.Machine

/-! ### RESET# sampled asserted -/

/-- What RESET# gives the core and the bus agent has the values of R779. -/
theorem resetAssert_resetValues (s : State) : (resetAssert s).ResetValues := heldInReset_resetValues s

/-- The requests handed over are dropped and the clocks since the last ADS# counted anew (log 18), with the special transaction
whose code was still to be read (R50). -/
theorem resetAssert_dropped (s : State) :
    (resetAssert s).bus.outQ = [] ∧ (resetAssert s).bus.sinceAds = 0 ∧ (resetAssert s).special = none := ⟨rfl, rfl, rfl⟩

/-- The configuration and the identity stand until the release (R775, R777), memory and the SMBus devices throughout (R774,
R782). -/
theorem resetAssert_frame (s : State) :
    (resetAssert s).bus.poc = s.bus.poc ∧ (resetAssert s).bus.arbId = s.bus.arbId ∧ (resetAssert s).mem = s.mem ∧
      SmbusSame s (resetAssert s) := ⟨rfl, rfl, rfl, rfl, rfl, rfl⟩

/-- The thermal monitor is in its normal state, THRMTRIP# deasserted (R85, R86). -/
theorem resetAssert_monitor (s : State) :
    (resetAssert s).thermal.mode = .normal ∧ (resetAssert s).thermal.thrmtrip = false := ⟨rfl, rfl⟩

/-- RESET# takes the processor off the bus and stops its core (R88, R770). -/
theorem resetAssert_heldOff (s : State) : (resetAssert s).onBus = false ∧ (resetAssert s).coreReady = false :=
  State.heldOff_of_inReset rfl

/-- Settles O58: the items of R779 by `resetAssert_resetValues`, what is lost and what stands by the lemmas after it. -/
theorem resetAsserted : Obligations.ResetAsserted := by
  intro s rest next
  let u : State := { s with inputs := rest }
  obtain ⟨cache, lint0, lint1, nmiInService, nmiPending, tlbPurging, rotatingId, owner, breqOut, latchA, issuing, nextB, ioq,
    deferred, idLatch, out⟩ := resetAssert_resetValues u
  obtain ⟨outQ, sinceAds, special⟩ := resetAssert_dropped u
  obtain ⟨poc, arbId, mem, devices⟩ := resetAssert_frame u
  obtain ⟨normal, no_thrmtrip⟩ := resetAssert_monitor u
  obtain ⟨off_bus, not_ready⟩ := resetAssert_heldOff u
  have in_reset : (resetAssert u).bus.inReset = true := rfl
  have stopped : (resetAssert u).core.run = .stopped := rfl
  have breqLow : (resetAssert u).bus.breqLow = 1 := rfl
  exact ⟨_, step_next next, in_reset, cache, lint0, lint1, nmiInService, nmiPending, stopped, rotatingId, owner, breqOut,
    breqLow, latchA, issuing, nextB, idLatch, ioq, deferred, tlbPurging, outQ, sinceAds, special, poc, arbId, out, normal,
    no_thrmtrip, mem, rfl, devices, not_ready, off_bus⟩

/-! ### A release of RESET# out of order -/

theorem resetTimingOk_iff (s : State) (r : ResetRelease) :
    resetTimingOk s r = true ↔
      s.powered = true ∧ s.platform.pwrgood = true ∧ r.cold = s.platform.pwrgoodLow ∧ 1000000 ≤ r.heldNs ∧
        r.ratioHeld = true ∧ 4 ≤ r.setupClocks ∧ (2 ≤ r.holdClocks ∧ r.holdClocks ≤ 3) ∧
        (2 ≤ r.ratioHoldClocks ∧ r.ratioHoldClocks ≤ 3) ∧ 115 ≤ r.taCentiNs := by
  simp [resetTimingOk, and_assoc]

theorem resetRelease_resetTiming {s : State} {r : ResetRelease} (in_reset : s.bus.inReset = true)
    (timing : resetTimingOk s r = false) : resetRelease r s = .refused .resetTiming := by
  simp [resetRelease, in_reset, timing]

/-- A release in order after a thermal trip, with the case not below its maximum (R366, R803). -/
theorem resetRelease_hotReset {s : State} {r : ResetRelease} (in_reset : s.bus.inReset = true)
    (timing : resetTimingOk s r = true) (ratio : ratioOk s.platform.sku r.ratioPins = true)
    (tripped : s.thermal.afterTrip = true) (hot : tcaseMax s.platform.sku ≤ r.tcase) :
    resetRelease r s = .refused .hotReset := by
  simp [resetRelease, in_reset, timing, ratio, tripped, Int.not_lt.mpr hot]

/-! ### PWRGOOD -/

/-- PWRGOOD rises in order only while RESET# is asserted and the power is on (R549, R771). -/
theorem setPwrgood_rises {s : State} (low : s.platform.pwrgood = false) :
    setPwrgood true s =
      if s.bus.inReset = true ∧ s.powered = true then .next { s with platform := { s.platform with pwrgood := true } }
      else .refused .resetTiming := by
  cases in_reset : s.bus.inReset with
  | false => simp [setPwrgood, low, in_reset]
  | true => cases powered : s.powered <;> simp [setPwrgood, low, in_reset, powered]

/-! ### Measured quantities -/

/-- Termination pins at one level say where the bus is terminated (R206). -/
theorem terminationMode_of_eq {p : Platform} (same : p.terma = p.termb) :
    terminationMode p = some (if p.terma then .onDie else .offDie) := by
  cases level : p.terma <;> simp [terminationMode, ← same, level]

theorem withinLimits_iff_between {k : Sku} {mode : TerminationMode} {q : Quantity} {lo hi : Int}
    (bounds : limits k mode q = (some lo, some hi)) (v : Int) : withinLimits k mode q v = true ↔ lo ≤ v ∧ v ≤ hi := by
  simp [withinLimits, bounds]

theorem withinLimits_iff_le {k : Sku} {mode : TerminationMode} {q : Quantity} {hi : Int}
    (bound : limits k mode q = (none, some hi)) (v : Int) : withinLimits k mode q v = true ↔ v ≤ hi := by
  simp [withinLimits, bound]

/-- A measured quantity, by what its limits say in the termination mode of the platform (R206, R219). -/
theorem step_measure {s : State} {q : Quantity} {v : Int} {rest : List Input} (next : s.Next (.measure q v) rest)
    (same : s.platform.terma = s.platform.termb) {P : Prop} [Decidable P]
    (within : withinLimits s.platform.sku (if s.platform.terma then .onDie else .offDie) q v = true ↔ P) :
    step s = if P then .next { s with inputs := rest } else .refused .outOfSpec := by
  rw [step_next next]
  simp only [runInput, measured, terminationMode_of_eq same, within]

/-! ### The statement -/

/-- Settles O60: the release by its first check that fails, PWRGOOD by its own rules, each quantity by its limits. -/
theorem platformRequirements : Obligations.PlatformRequirements := by
  refine ⟨fun s r rest next in_reset => ⟨fun broken => ?timing, fun timing ratio tripped hot => ?hot⟩,
    fun s rest next low => (step_next next).trans (setPwrgood_rises (s := { s with inputs := rest }) low),
    fun s x rest next low processor => ?heldOff, fun s rest v same => ⟨fun next => ?rterm, fun next => ?vcc, fun next => ?tdp,
      fun next => ?tcase⟩⟩
  case timing =>
    have timing : resetTimingOk s r = false := by
      rw [Bool.eq_false_iff, ne_eq, resetTimingOk_iff]
      rintro ⟨powered, pwrgood, cold, held, ratioHeld, setup, hold, ratioHold, ta⟩
      simp only [powered, pwrgood, ratioHeld, cold, ne_eq, not_true, Bool.true_eq_false, or_false, false_or] at broken
      omega
    exact (step_next next).trans (resetRelease_resetTiming in_reset timing)
  case hot => exact (step_next next).trans (resetRelease_hotReset in_reset timing ratio tripped hot)
  case heldOff =>
    obtain ⟨off_bus, not_ready⟩ := State.heldOff_of_pwrgood (s := { s with inputs := rest }) low
    exact (step_next next).trans (runInput_heldOff processor off_bus not_ready)
  case rterm =>
    refine step_measure next same ?_
    cases s.platform.terma with
    | true => exact withinLimits_iff_between rfl v
    | false => exact withinLimits_iff_between rfl v
  case vcc => exact step_measure next same (withinLimits_iff_between rfl v)
  case tdp =>
    refine step_measure next same (withinLimits_iff_le ?_ v)
    cases s.platform.sku <;> rfl
  case tcase =>
    refine step_measure next same (withinLimits_iff_between ?_ v)
    cases s.platform.sku <;> rfl

end Sys2Proof.Machine
end
